-- ==== Sys2Proof/Word.lean ====
section
/-! DEFINITION. The two word types of the machine: bytes and addresses (`spec/00_scope.md` R7). -/

namespace Sys2Proof

/-- A byte: the width of A, X, Y, S and of every memory cell (R7, R50). -/
abbrev Byte := BitVec 8

/-- A 16-bit address, and the width of PC (R7, R25, R50). Its `+` and `-` wrap modulo 65,536. -/
abbrev Addr := BitVec 16

end Sys2Proof
end

