-- ==== Sys2Proof/Syntax.lean ====
section
/-! DEFINITION. The instructions: the 75 mnemonics, the 13 addressing modes, the operands, and one constructor of
`Instr` for each of the 256 rows of `spec/opcode_table.json` (`spec/30_encoding.md` R80, R81, R97, R98). -/

namespace Sys2Proof

/-- The 75 mnemonics of the matrix (R98, R99). -/
inductive Mnemonic where
  | ADC | AHX | ALR | ANC | AND | ARR | ASL | AXS | BCC | BCS
  | BEQ | BIT | BMI | BNE | BPL | BRK | BVC | BVS | CLC | CLD
  | CLI | CLV | CMP | CPX | CPY | DCP | DEC | DEX | DEY | EOR
  | INC | INX | INY | ISC | JMP | JSR | LAS | LAX | LDA | LDX
  | LDY | LSR | NOP | ORA | PHA | PHP | PLA | PLP | RLA | ROL
  | ROR | RRA | RTI | RTS | SAX | SBC | SEC | SED | SEI | SHX
  | SHY | SLO | SRE | STA | STP | STX | STY | TAS | TAX | TAY
  | TSX | TXA | TXS | TYA | XAA
  deriving DecidableEq, Repr

/-- The 13 addressing modes (R81). -/
inductive Mode where
  | implicit | accumulator | imm | zp | relative | abs | indirect | zpX | zpY | absX | absY | indX | indY
  deriving DecidableEq, Repr

/-- The column "Bytes" of the mode table: the number of operand bytes (R81). -/
def Mode.operandBytes : Mode → Nat
  | .implicit => 0
  | .accumulator => 0
  | .imm => 1
  | .zp => 1
  | .relative => 1
  | .abs => 2
  | .indirect => 2
  | .zpX => 1
  | .zpY => 1
  | .absX => 2
  | .absY => 2
  | .indX => 1
  | .indY => 1

/-- The nine operand forms that name a memory byte (R85, R86, R88, R91 to R96), with the operand byte `b1` or the
16-bit operand `a` = b2:b1. -/
inductive MemOperand where
  | /-- `#i` -/ imm (b : Byte)
  | /-- `d` -/ zp (b : Byte)
  | /-- `d,X` -/ zpX (b : Byte)
  | /-- `d,Y` -/ zpY (b : Byte)
  | /-- `a` -/ abs (a : Addr)
  | /-- `a,X` -/ absX (a : Addr)
  | /-- `a,Y` -/ absY (a : Addr)
  | /-- `(d,X)` -/ indX (b : Byte)
  | /-- `(d),Y` -/ indY (b : Byte)
  deriving DecidableEq, Repr

/-- An operand in any of the 13 modes (R81). -/
inductive Operand where
  | /-- Implicit mode (R83). -/ implicit
  | /-- Accumulator mode, `A` (R84). -/ accumulator
  | /-- Relative mode, `*+d` (R87). -/ relative (b : Byte)
  | /-- Indirect mode, `(a)` (R90). -/ indirect (a : Addr)
  | mem (m : MemOperand)
  deriving DecidableEq, Repr

/-- The mode of a memory operand. -/
def MemOperand.mode : MemOperand → Mode
  | .imm _ => .imm
  | .zp _ => .zp
  | .zpX _ => .zpX
  | .zpY _ => .zpY
  | .abs _ => .abs
  | .absX _ => .absX
  | .absY _ => .absY
  | .indX _ => .indX
  | .indY _ => .indY

/-- The mode of an operand. -/
def Operand.mode : Operand → Mode
  | .implicit => .implicit
  | .accumulator => .accumulator
  | .relative _ => .relative
  | .indirect _ => .indirect
  | .mem m => m.mode

/-- The number of operand bytes that an operand carries: one for a byte operand, two for a 16-bit operand. -/
def Operand.byteCount : Operand → Nat
  | .implicit => 0
  | .accumulator => 0
  | .relative _ => 1
  | .indirect _ => 2
  | .mem (.imm _) => 1
  | .mem (.zp _) => 1
  | .mem (.zpX _) => 1
  | .mem (.zpY _) => 1
  | .mem (.abs _) => 2
  | .mem (.absX _) => 2
  | .mem (.absY _) => 2
  | .mem (.indX _) => 1
  | .mem (.indY _) => 1

/-- The instructions: one constructor for each cell of the matrix (R98), those with an operand first,
each group in the order of the opcode byte. Where several cells hold one mnemonic and form, the undocumented cells carry their opcode byte in their name. -/
inductive Instr where
  | /-- $01 `ORA (d,X)` (R161) -/ oraIndX (b : Byte)
  | /-- $03 `SLO (d,X)` (R275) -/ sloIndX (b : Byte)
  | /-- $04 `NOP d` (R273) -/ nopZp04 (b : Byte)
  | /-- $05 `ORA d` (R161) -/ oraZp (b : Byte)
  | /-- $06 `ASL d` (R190) -/ aslZp (b : Byte)
  | /-- $07 `SLO d` (R275) -/ sloZp (b : Byte)
  | /-- $09 `ORA #i` (R161) -/ oraImm (b : Byte)
  | /-- $0B `ANC #i` (R283) -/ ancImm0B (b : Byte)
  | /-- $0C `NOP a` (R273) -/ nopAbs (a : Addr)
  | /-- $0D `ORA a` (R161) -/ oraAbs (a : Addr)
  | /-- $0E `ASL a` (R190) -/ aslAbs (a : Addr)
  | /-- $0F `SLO a` (R275) -/ sloAbs (a : Addr)
  | /-- $10 `BPL *+d` (R226) -/ bpl (b : Byte)
  | /-- $11 `ORA (d),Y` (R161) -/ oraIndY (b : Byte)
  | /-- $13 `SLO (d),Y` (R275) -/ sloIndY (b : Byte)
  | /-- $14 `NOP d,X` (R273) -/ nopZpX14 (b : Byte)
  | /-- $15 `ORA d,X` (R161) -/ oraZpX (b : Byte)
  | /-- $16 `ASL d,X` (R190) -/ aslZpX (b : Byte)
  | /-- $17 `SLO d,X` (R275) -/ sloZpX (b : Byte)
  | /-- $19 `ORA a,Y` (R161) -/ oraAbsY (a : Addr)
  | /-- $1B `SLO a,Y` (R275) -/ sloAbsY (a : Addr)
  | /-- $1C `NOP a,X` (R273) -/ nopAbsX1C (a : Addr)
  | /-- $1D `ORA a,X` (R161) -/ oraAbsX (a : Addr)
  | /-- $1E `ASL a,X` (R190) -/ aslAbsX (a : Addr)
  | /-- $1F `SLO a,X` (R275) -/ sloAbsX (a : Addr)
  | /-- $20 `JSR a` (R230) -/ jsrAbs (a : Addr)
  | /-- $21 `AND (d,X)` (R160) -/ andIndX (b : Byte)
  | /-- $23 `RLA (d,X)` (R276) -/ rlaIndX (b : Byte)
  | /-- $24 `BIT d` (R163) -/ bitZp (b : Byte)
  | /-- $25 `AND d` (R160) -/ andZp (b : Byte)
  | /-- $26 `ROL d` (R192) -/ rolZp (b : Byte)
  | /-- $27 `RLA d` (R276) -/ rlaZp (b : Byte)
  | /-- $29 `AND #i` (R160) -/ andImm (b : Byte)
  | /-- $2B `ANC #i` (R283) -/ ancImm2B (b : Byte)
  | /-- $2C `BIT a` (R163) -/ bitAbs (a : Addr)
  | /-- $2D `AND a` (R160) -/ andAbs (a : Addr)
  | /-- $2E `ROL a` (R192) -/ rolAbs (a : Addr)
  | /-- $2F `RLA a` (R276) -/ rlaAbs (a : Addr)
  | /-- $30 `BMI *+d` (R224) -/ bmi (b : Byte)
  | /-- $31 `AND (d),Y` (R160) -/ andIndY (b : Byte)
  | /-- $33 `RLA (d),Y` (R276) -/ rlaIndY (b : Byte)
  | /-- $34 `NOP d,X` (R273) -/ nopZpX34 (b : Byte)
  | /-- $35 `AND d,X` (R160) -/ andZpX (b : Byte)
  | /-- $36 `ROL d,X` (R192) -/ rolZpX (b : Byte)
  | /-- $37 `RLA d,X` (R276) -/ rlaZpX (b : Byte)
  | /-- $39 `AND a,Y` (R160) -/ andAbsY (a : Addr)
  | /-- $3B `RLA a,Y` (R276) -/ rlaAbsY (a : Addr)
  | /-- $3C `NOP a,X` (R273) -/ nopAbsX3C (a : Addr)
  | /-- $3D `AND a,X` (R160) -/ andAbsX (a : Addr)
  | /-- $3E `ROL a,X` (R192) -/ rolAbsX (a : Addr)
  | /-- $3F `RLA a,X` (R276) -/ rlaAbsX (a : Addr)
  | /-- $41 `EOR (d,X)` (R162) -/ eorIndX (b : Byte)
  | /-- $43 `SRE (d,X)` (R277) -/ sreIndX (b : Byte)
  | /-- $44 `NOP d` (R273) -/ nopZp44 (b : Byte)
  | /-- $45 `EOR d` (R162) -/ eorZp (b : Byte)
  | /-- $46 `LSR d` (R191) -/ lsrZp (b : Byte)
  | /-- $47 `SRE d` (R277) -/ sreZp (b : Byte)
  | /-- $49 `EOR #i` (R162) -/ eorImm (b : Byte)
  | /-- $4B `ALR #i` (R284) -/ alrImm (b : Byte)
  | /-- $4C `JMP a` (R229) -/ jmpAbs (a : Addr)
  | /-- $4D `EOR a` (R162) -/ eorAbs (a : Addr)
  | /-- $4E `LSR a` (R191) -/ lsrAbs (a : Addr)
  | /-- $4F `SRE a` (R277) -/ sreAbs (a : Addr)
  | /-- $50 `BVC *+d` (R227) -/ bvc (b : Byte)
  | /-- $51 `EOR (d),Y` (R162) -/ eorIndY (b : Byte)
  | /-- $53 `SRE (d),Y` (R277) -/ sreIndY (b : Byte)
  | /-- $54 `NOP d,X` (R273) -/ nopZpX54 (b : Byte)
  | /-- $55 `EOR d,X` (R162) -/ eorZpX (b : Byte)
  | /-- $56 `LSR d,X` (R191) -/ lsrZpX (b : Byte)
  | /-- $57 `SRE d,X` (R277) -/ sreZpX (b : Byte)
  | /-- $59 `EOR a,Y` (R162) -/ eorAbsY (a : Addr)
  | /-- $5B `SRE a,Y` (R277) -/ sreAbsY (a : Addr)
  | /-- $5C `NOP a,X` (R273) -/ nopAbsX5C (a : Addr)
  | /-- $5D `EOR a,X` (R162) -/ eorAbsX (a : Addr)
  | /-- $5E `LSR a,X` (R191) -/ lsrAbsX (a : Addr)
  | /-- $5F `SRE a,X` (R277) -/ sreAbsX (a : Addr)
  | /-- $61 `ADC (d,X)` (R164) -/ adcIndX (b : Byte)
  | /-- $63 `RRA (d,X)` (R278) -/ rraIndX (b : Byte)
  | /-- $64 `NOP d` (R273) -/ nopZp64 (b : Byte)
  | /-- $65 `ADC d` (R164) -/ adcZp (b : Byte)
  | /-- $66 `ROR d` (R193) -/ rorZp (b : Byte)
  | /-- $67 `RRA d` (R278) -/ rraZp (b : Byte)
  | /-- $69 `ADC #i` (R164) -/ adcImm (b : Byte)
  | /-- $6B `ARR #i` (R285) -/ arrImm (b : Byte)
  | /-- $6C `JMP (a)` (R229) -/ jmpInd (a : Addr)
  | /-- $6D `ADC a` (R164) -/ adcAbs (a : Addr)
  | /-- $6E `ROR a` (R193) -/ rorAbs (a : Addr)
  | /-- $6F `RRA a` (R278) -/ rraAbs (a : Addr)
  | /-- $70 `BVS *+d` (R228) -/ bvs (b : Byte)
  | /-- $71 `ADC (d),Y` (R164) -/ adcIndY (b : Byte)
  | /-- $73 `RRA (d),Y` (R278) -/ rraIndY (b : Byte)
  | /-- $74 `NOP d,X` (R273) -/ nopZpX74 (b : Byte)
  | /-- $75 `ADC d,X` (R164) -/ adcZpX (b : Byte)
  | /-- $76 `ROR d,X` (R193) -/ rorZpX (b : Byte)
  | /-- $77 `RRA d,X` (R278) -/ rraZpX (b : Byte)
  | /-- $79 `ADC a,Y` (R164) -/ adcAbsY (a : Addr)
  | /-- $7B `RRA a,Y` (R278) -/ rraAbsY (a : Addr)
  | /-- $7C `NOP a,X` (R273) -/ nopAbsX7C (a : Addr)
  | /-- $7D `ADC a,X` (R164) -/ adcAbsX (a : Addr)
  | /-- $7E `ROR a,X` (R193) -/ rorAbsX (a : Addr)
  | /-- $7F `RRA a,X` (R278) -/ rraAbsX (a : Addr)
  | /-- $80 `NOP #i` (R273) -/ nopImm80 (b : Byte)
  | /-- $81 `STA (d,X)` (R123) -/ staIndX (b : Byte)
  | /-- $82 `NOP #i` (R273) -/ nopImm82 (b : Byte)
  | /-- $83 `SAX (d,X)` (R279) -/ saxIndX (b : Byte)
  | /-- $84 `STY d` (R125) -/ styZp (b : Byte)
  | /-- $85 `STA d` (R123) -/ staZp (b : Byte)
  | /-- $86 `STX d` (R124) -/ stxZp (b : Byte)
  | /-- $87 `SAX d` (R279) -/ saxZp (b : Byte)
  | /-- $89 `NOP #i` (R273) -/ nopImm89 (b : Byte)
  | /-- $8B `XAA #i` (R288) -/ xaaImm (b : Byte)
  | /-- $8C `STY a` (R125) -/ styAbs (a : Addr)
  | /-- $8D `STA a` (R123) -/ staAbs (a : Addr)
  | /-- $8E `STX a` (R124) -/ stxAbs (a : Addr)
  | /-- $8F `SAX a` (R279) -/ saxAbs (a : Addr)
  | /-- $90 `BCC *+d` (R221) -/ bcc (b : Byte)
  | /-- $91 `STA (d),Y` (R123) -/ staIndY (b : Byte)
  | /-- $93 `AHX (d),Y` (R290) -/ ahxIndY (b : Byte)
  | /-- $94 `STY d,X` (R125) -/ styZpX (b : Byte)
  | /-- $95 `STA d,X` (R123) -/ staZpX (b : Byte)
  | /-- $96 `STX d,Y` (R124) -/ stxZpY (b : Byte)
  | /-- $97 `SAX d,Y` (R279) -/ saxZpY (b : Byte)
  | /-- $99 `STA a,Y` (R123) -/ staAbsY (a : Addr)
  | /-- $9B `TAS a,Y` (R291) -/ tasAbsY (a : Addr)
  | /-- $9C `SHY a,X` (R292) -/ shyAbsX (a : Addr)
  | /-- $9D `STA a,X` (R123) -/ staAbsX (a : Addr)
  | /-- $9E `SHX a,Y` (R293) -/ shxAbsY (a : Addr)
  | /-- $9F `AHX a,Y` (R290) -/ ahxAbsY (a : Addr)
  | /-- $A0 `LDY #i` (R122) -/ ldyImm (b : Byte)
  | /-- $A1 `LDA (d,X)` (R120) -/ ldaIndX (b : Byte)
  | /-- $A2 `LDX #i` (R121) -/ ldxImm (b : Byte)
  | /-- $A3 `LAX (d,X)` (R280) -/ laxIndX (b : Byte)
  | /-- $A4 `LDY d` (R122) -/ ldyZp (b : Byte)
  | /-- $A5 `LDA d` (R120) -/ ldaZp (b : Byte)
  | /-- $A6 `LDX d` (R121) -/ ldxZp (b : Byte)
  | /-- $A7 `LAX d` (R280) -/ laxZp (b : Byte)
  | /-- $A9 `LDA #i` (R120) -/ ldaImm (b : Byte)
  | /-- $AB `LAX #i` (R289) -/ laxImm (b : Byte)
  | /-- $AC `LDY a` (R122) -/ ldyAbs (a : Addr)
  | /-- $AD `LDA a` (R120) -/ ldaAbs (a : Addr)
  | /-- $AE `LDX a` (R121) -/ ldxAbs (a : Addr)
  | /-- $AF `LAX a` (R280) -/ laxAbs (a : Addr)
  | /-- $B0 `BCS *+d` (R222) -/ bcs (b : Byte)
  | /-- $B1 `LDA (d),Y` (R120) -/ ldaIndY (b : Byte)
  | /-- $B3 `LAX (d),Y` (R280) -/ laxIndY (b : Byte)
  | /-- $B4 `LDY d,X` (R122) -/ ldyZpX (b : Byte)
  | /-- $B5 `LDA d,X` (R120) -/ ldaZpX (b : Byte)
  | /-- $B6 `LDX d,Y` (R121) -/ ldxZpY (b : Byte)
  | /-- $B7 `LAX d,Y` (R280) -/ laxZpY (b : Byte)
  | /-- $B9 `LDA a,Y` (R120) -/ ldaAbsY (a : Addr)
  | /-- $BB `LAS a,Y` (R287) -/ lasAbsY (a : Addr)
  | /-- $BC `LDY a,X` (R122) -/ ldyAbsX (a : Addr)
  | /-- $BD `LDA a,X` (R120) -/ ldaAbsX (a : Addr)
  | /-- $BE `LDX a,Y` (R121) -/ ldxAbsY (a : Addr)
  | /-- $BF `LAX a,Y` (R280) -/ laxAbsY (a : Addr)
  | /-- $C0 `CPY #i` (R168) -/ cpyImm (b : Byte)
  | /-- $C1 `CMP (d,X)` (R166) -/ cmpIndX (b : Byte)
  | /-- $C2 `NOP #i` (R273) -/ nopImmC2 (b : Byte)
  | /-- $C3 `DCP (d,X)` (R281) -/ dcpIndX (b : Byte)
  | /-- $C4 `CPY d` (R168) -/ cpyZp (b : Byte)
  | /-- $C5 `CMP d` (R166) -/ cmpZp (b : Byte)
  | /-- $C6 `DEC d` (R195) -/ decZp (b : Byte)
  | /-- $C7 `DCP d` (R281) -/ dcpZp (b : Byte)
  | /-- $C9 `CMP #i` (R166) -/ cmpImm (b : Byte)
  | /-- $CB `AXS #i` (R286) -/ axsImm (b : Byte)
  | /-- $CC `CPY a` (R168) -/ cpyAbs (a : Addr)
  | /-- $CD `CMP a` (R166) -/ cmpAbs (a : Addr)
  | /-- $CE `DEC a` (R195) -/ decAbs (a : Addr)
  | /-- $CF `DCP a` (R281) -/ dcpAbs (a : Addr)
  | /-- $D0 `BNE *+d` (R225) -/ bne (b : Byte)
  | /-- $D1 `CMP (d),Y` (R166) -/ cmpIndY (b : Byte)
  | /-- $D3 `DCP (d),Y` (R281) -/ dcpIndY (b : Byte)
  | /-- $D4 `NOP d,X` (R273) -/ nopZpXD4 (b : Byte)
  | /-- $D5 `CMP d,X` (R166) -/ cmpZpX (b : Byte)
  | /-- $D6 `DEC d,X` (R195) -/ decZpX (b : Byte)
  | /-- $D7 `DCP d,X` (R281) -/ dcpZpX (b : Byte)
  | /-- $D9 `CMP a,Y` (R166) -/ cmpAbsY (a : Addr)
  | /-- $DB `DCP a,Y` (R281) -/ dcpAbsY (a : Addr)
  | /-- $DC `NOP a,X` (R273) -/ nopAbsXDC (a : Addr)
  | /-- $DD `CMP a,X` (R166) -/ cmpAbsX (a : Addr)
  | /-- $DE `DEC a,X` (R195) -/ decAbsX (a : Addr)
  | /-- $DF `DCP a,X` (R281) -/ dcpAbsX (a : Addr)
  | /-- $E0 `CPX #i` (R167) -/ cpxImm (b : Byte)
  | /-- $E1 `SBC (d,X)` (R165) -/ sbcIndX (b : Byte)
  | /-- $E2 `NOP #i` (R273) -/ nopImmE2 (b : Byte)
  | /-- $E3 `ISC (d,X)` (R282) -/ iscIndX (b : Byte)
  | /-- $E4 `CPX d` (R167) -/ cpxZp (b : Byte)
  | /-- $E5 `SBC d` (R165) -/ sbcZp (b : Byte)
  | /-- $E6 `INC d` (R194) -/ incZp (b : Byte)
  | /-- $E7 `ISC d` (R282) -/ iscZp (b : Byte)
  | /-- $E9 `SBC #i` (R165) -/ sbcImm (b : Byte)
  | /-- $EB `SBC #i` (R274) -/ sbcImmEB (b : Byte)
  | /-- $EC `CPX a` (R167) -/ cpxAbs (a : Addr)
  | /-- $ED `SBC a` (R165) -/ sbcAbs (a : Addr)
  | /-- $EE `INC a` (R194) -/ incAbs (a : Addr)
  | /-- $EF `ISC a` (R282) -/ iscAbs (a : Addr)
  | /-- $F0 `BEQ *+d` (R223) -/ beq (b : Byte)
  | /-- $F1 `SBC (d),Y` (R165) -/ sbcIndY (b : Byte)
  | /-- $F3 `ISC (d),Y` (R282) -/ iscIndY (b : Byte)
  | /-- $F4 `NOP d,X` (R273) -/ nopZpXF4 (b : Byte)
  | /-- $F5 `SBC d,X` (R165) -/ sbcZpX (b : Byte)
  | /-- $F6 `INC d,X` (R194) -/ incZpX (b : Byte)
  | /-- $F7 `ISC d,X` (R282) -/ iscZpX (b : Byte)
  | /-- $F9 `SBC a,Y` (R165) -/ sbcAbsY (a : Addr)
  | /-- $FB `ISC a,Y` (R282) -/ iscAbsY (a : Addr)
  | /-- $FC `NOP a,X` (R273) -/ nopAbsXFC (a : Addr)
  | /-- $FD `SBC a,X` (R165) -/ sbcAbsX (a : Addr)
  | /-- $FE `INC a,X` (R194) -/ incAbsX (a : Addr)
  | /-- $FF `ISC a,X` (R282) -/ iscAbsX (a : Addr)
  | /-- $00 `BRK` (R260) -/ brk
  | /-- $02 `STP` (R271) -/ stp02
  | /-- $08 `PHP` (R147) -/ php
  | /-- $0A `ASL A` (R190) -/ aslAcc
  | /-- $12 `STP` (R271) -/ stp12
  | /-- $18 `CLC` (R250) -/ clc
  | /-- $1A `NOP` (R272) -/ nop1A
  | /-- $22 `STP` (R271) -/ stp22
  | /-- $28 `PLP` (R149) -/ plp
  | /-- $2A `ROL A` (R192) -/ rolAcc
  | /-- $32 `STP` (R271) -/ stp32
  | /-- $38 `SEC` (R254) -/ sec
  | /-- $3A `NOP` (R272) -/ nop3A
  | /-- $40 `RTI` (R261) -/ rti
  | /-- $42 `STP` (R271) -/ stp42
  | /-- $48 `PHA` (R146) -/ pha
  | /-- $4A `LSR A` (R191) -/ lsrAcc
  | /-- $52 `STP` (R271) -/ stp52
  | /-- $58 `CLI` (R252) -/ cli
  | /-- $5A `NOP` (R272) -/ nop5A
  | /-- $60 `RTS` (R231) -/ rts
  | /-- $62 `STP` (R271) -/ stp62
  | /-- $68 `PLA` (R148) -/ pla
  | /-- $6A `ROR A` (R193) -/ rorAcc
  | /-- $72 `STP` (R271) -/ stp72
  | /-- $78 `SEI` (R256) -/ sei
  | /-- $7A `NOP` (R272) -/ nop7A
  | /-- $88 `DEY` (R199) -/ dey
  | /-- $8A `TXA` (R143) -/ txa
  | /-- $92 `STP` (R271) -/ stp92
  | /-- $98 `TYA` (R145) -/ tya
  | /-- $9A `TXS` (R144) -/ txs
  | /-- $A8 `TAY` (R141) -/ tay
  | /-- $AA `TAX` (R140) -/ tax
  | /-- $B2 `STP` (R271) -/ stpB2
  | /-- $B8 `CLV` (R253) -/ clv
  | /-- $BA `TSX` (R142) -/ tsx
  | /-- $C8 `INY` (R197) -/ iny
  | /-- $CA `DEX` (R198) -/ dex
  | /-- $D2 `STP` (R271) -/ stpD2
  | /-- $D8 `CLD` (R251) -/ cld
  | /-- $DA `NOP` (R272) -/ nopDA
  | /-- $E8 `INX` (R196) -/ inx
  | /-- $EA `NOP` (R257) -/ nop
  | /-- $F2 `STP` (R271) -/ stpF2
  | /-- $F8 `SED` (R255) -/ sed
  | /-- $FA `NOP` (R272) -/ nopFA
  deriving DecidableEq, Repr

/-- The mnemonic of an instruction (R98). -/
def Instr.mnemonic : Instr → Mnemonic
  | .brk => .BRK
  | .oraIndX _ => .ORA
  | .stp02 => .STP
  | .sloIndX _ => .SLO
  | .nopZp04 _ => .NOP
  | .oraZp _ => .ORA
  | .aslZp _ => .ASL
  | .sloZp _ => .SLO
  | .php => .PHP
  | .oraImm _ => .ORA
  | .aslAcc => .ASL
  | .ancImm0B _ => .ANC
  | .nopAbs _ => .NOP
  | .oraAbs _ => .ORA
  | .aslAbs _ => .ASL
  | .sloAbs _ => .SLO
  | .bpl _ => .BPL
  | .oraIndY _ => .ORA
  | .stp12 => .STP
  | .sloIndY _ => .SLO
  | .nopZpX14 _ => .NOP
  | .oraZpX _ => .ORA
  | .aslZpX _ => .ASL
  | .sloZpX _ => .SLO
  | .clc => .CLC
  | .oraAbsY _ => .ORA
  | .nop1A => .NOP
  | .sloAbsY _ => .SLO
  | .nopAbsX1C _ => .NOP
  | .oraAbsX _ => .ORA
  | .aslAbsX _ => .ASL
  | .sloAbsX _ => .SLO
  | .jsrAbs _ => .JSR
  | .andIndX _ => .AND
  | .stp22 => .STP
  | .rlaIndX _ => .RLA
  | .bitZp _ => .BIT
  | .andZp _ => .AND
  | .rolZp _ => .ROL
  | .rlaZp _ => .RLA
  | .plp => .PLP
  | .andImm _ => .AND
  | .rolAcc => .ROL
  | .ancImm2B _ => .ANC
  | .bitAbs _ => .BIT
  | .andAbs _ => .AND
  | .rolAbs _ => .ROL
  | .rlaAbs _ => .RLA
  | .bmi _ => .BMI
  | .andIndY _ => .AND
  | .stp32 => .STP
  | .rlaIndY _ => .RLA
  | .nopZpX34 _ => .NOP
  | .andZpX _ => .AND
  | .rolZpX _ => .ROL
  | .rlaZpX _ => .RLA
  | .sec => .SEC
  | .andAbsY _ => .AND
  | .nop3A => .NOP
  | .rlaAbsY _ => .RLA
  | .nopAbsX3C _ => .NOP
  | .andAbsX _ => .AND
  | .rolAbsX _ => .ROL
  | .rlaAbsX _ => .RLA
  | .rti => .RTI
  | .eorIndX _ => .EOR
  | .stp42 => .STP
  | .sreIndX _ => .SRE
  | .nopZp44 _ => .NOP
  | .eorZp _ => .EOR
  | .lsrZp _ => .LSR
  | .sreZp _ => .SRE
  | .pha => .PHA
  | .eorImm _ => .EOR
  | .lsrAcc => .LSR
  | .alrImm _ => .ALR
  | .jmpAbs _ => .JMP
  | .eorAbs _ => .EOR
  | .lsrAbs _ => .LSR
  | .sreAbs _ => .SRE
  | .bvc _ => .BVC
  | .eorIndY _ => .EOR
  | .stp52 => .STP
  | .sreIndY _ => .SRE
  | .nopZpX54 _ => .NOP
  | .eorZpX _ => .EOR
  | .lsrZpX _ => .LSR
  | .sreZpX _ => .SRE
  | .cli => .CLI
  | .eorAbsY _ => .EOR
  | .nop5A => .NOP
  | .sreAbsY _ => .SRE
  | .nopAbsX5C _ => .NOP
  | .eorAbsX _ => .EOR
  | .lsrAbsX _ => .LSR
  | .sreAbsX _ => .SRE
  | .rts => .RTS
  | .adcIndX _ => .ADC
  | .stp62 => .STP
  | .rraIndX _ => .RRA
  | .nopZp64 _ => .NOP
  | .adcZp _ => .ADC
  | .rorZp _ => .ROR
  | .rraZp _ => .RRA
  | .pla => .PLA
  | .adcImm _ => .ADC
  | .rorAcc => .ROR
  | .arrImm _ => .ARR
  | .jmpInd _ => .JMP
  | .adcAbs _ => .ADC
  | .rorAbs _ => .ROR
  | .rraAbs _ => .RRA
  | .bvs _ => .BVS
  | .adcIndY _ => .ADC
  | .stp72 => .STP
  | .rraIndY _ => .RRA
  | .nopZpX74 _ => .NOP
  | .adcZpX _ => .ADC
  | .rorZpX _ => .ROR
  | .rraZpX _ => .RRA
  | .sei => .SEI
  | .adcAbsY _ => .ADC
  | .nop7A => .NOP
  | .rraAbsY _ => .RRA
  | .nopAbsX7C _ => .NOP
  | .adcAbsX _ => .ADC
  | .rorAbsX _ => .ROR
  | .rraAbsX _ => .RRA
  | .nopImm80 _ => .NOP
  | .staIndX _ => .STA
  | .nopImm82 _ => .NOP
  | .saxIndX _ => .SAX
  | .styZp _ => .STY
  | .staZp _ => .STA
  | .stxZp _ => .STX
  | .saxZp _ => .SAX
  | .dey => .DEY
  | .nopImm89 _ => .NOP
  | .txa => .TXA
  | .xaaImm _ => .XAA
  | .styAbs _ => .STY
  | .staAbs _ => .STA
  | .stxAbs _ => .STX
  | .saxAbs _ => .SAX
  | .bcc _ => .BCC
  | .staIndY _ => .STA
  | .stp92 => .STP
  | .ahxIndY _ => .AHX
  | .styZpX _ => .STY
  | .staZpX _ => .STA
  | .stxZpY _ => .STX
  | .saxZpY _ => .SAX
  | .tya => .TYA
  | .staAbsY _ => .STA
  | .txs => .TXS
  | .tasAbsY _ => .TAS
  | .shyAbsX _ => .SHY
  | .staAbsX _ => .STA
  | .shxAbsY _ => .SHX
  | .ahxAbsY _ => .AHX
  | .ldyImm _ => .LDY
  | .ldaIndX _ => .LDA
  | .ldxImm _ => .LDX
  | .laxIndX _ => .LAX
  | .ldyZp _ => .LDY
  | .ldaZp _ => .LDA
  | .ldxZp _ => .LDX
  | .laxZp _ => .LAX
  | .tay => .TAY
  | .ldaImm _ => .LDA
  | .tax => .TAX
  | .laxImm _ => .LAX
  | .ldyAbs _ => .LDY
  | .ldaAbs _ => .LDA
  | .ldxAbs _ => .LDX
  | .laxAbs _ => .LAX
  | .bcs _ => .BCS
  | .ldaIndY _ => .LDA
  | .stpB2 => .STP
  | .laxIndY _ => .LAX
  | .ldyZpX _ => .LDY
  | .ldaZpX _ => .LDA
  | .ldxZpY _ => .LDX
  | .laxZpY _ => .LAX
  | .clv => .CLV
  | .ldaAbsY _ => .LDA
  | .tsx => .TSX
  | .lasAbsY _ => .LAS
  | .ldyAbsX _ => .LDY
  | .ldaAbsX _ => .LDA
  | .ldxAbsY _ => .LDX
  | .laxAbsY _ => .LAX
  | .cpyImm _ => .CPY
  | .cmpIndX _ => .CMP
  | .nopImmC2 _ => .NOP
  | .dcpIndX _ => .DCP
  | .cpyZp _ => .CPY
  | .cmpZp _ => .CMP
  | .decZp _ => .DEC
  | .dcpZp _ => .DCP
  | .iny => .INY
  | .cmpImm _ => .CMP
  | .dex => .DEX
  | .axsImm _ => .AXS
  | .cpyAbs _ => .CPY
  | .cmpAbs _ => .CMP
  | .decAbs _ => .DEC
  | .dcpAbs _ => .DCP
  | .bne _ => .BNE
  | .cmpIndY _ => .CMP
  | .stpD2 => .STP
  | .dcpIndY _ => .DCP
  | .nopZpXD4 _ => .NOP
  | .cmpZpX _ => .CMP
  | .decZpX _ => .DEC
  | .dcpZpX _ => .DCP
  | .cld => .CLD
  | .cmpAbsY _ => .CMP
  | .nopDA => .NOP
  | .dcpAbsY _ => .DCP
  | .nopAbsXDC _ => .NOP
  | .cmpAbsX _ => .CMP
  | .decAbsX _ => .DEC
  | .dcpAbsX _ => .DCP
  | .cpxImm _ => .CPX
  | .sbcIndX _ => .SBC
  | .nopImmE2 _ => .NOP
  | .iscIndX _ => .ISC
  | .cpxZp _ => .CPX
  | .sbcZp _ => .SBC
  | .incZp _ => .INC
  | .iscZp _ => .ISC
  | .inx => .INX
  | .sbcImm _ => .SBC
  | .nop => .NOP
  | .sbcImmEB _ => .SBC
  | .cpxAbs _ => .CPX
  | .sbcAbs _ => .SBC
  | .incAbs _ => .INC
  | .iscAbs _ => .ISC
  | .beq _ => .BEQ
  | .sbcIndY _ => .SBC
  | .stpF2 => .STP
  | .iscIndY _ => .ISC
  | .nopZpXF4 _ => .NOP
  | .sbcZpX _ => .SBC
  | .incZpX _ => .INC
  | .iscZpX _ => .ISC
  | .sed => .SED
  | .sbcAbsY _ => .SBC
  | .nopFA => .NOP
  | .iscAbsY _ => .ISC
  | .nopAbsXFC _ => .NOP
  | .sbcAbsX _ => .SBC
  | .incAbsX _ => .INC
  | .iscAbsX _ => .ISC

/-- The operand of an instruction (R98). -/
def Instr.operand : Instr → Operand
  | .brk => .implicit
  | .oraIndX b => .mem (.indX b)
  | .stp02 => .implicit
  | .sloIndX b => .mem (.indX b)
  | .nopZp04 b => .mem (.zp b)
  | .oraZp b => .mem (.zp b)
  | .aslZp b => .mem (.zp b)
  | .sloZp b => .mem (.zp b)
  | .php => .implicit
  | .oraImm b => .mem (.imm b)
  | .aslAcc => .accumulator
  | .ancImm0B b => .mem (.imm b)
  | .nopAbs a => .mem (.abs a)
  | .oraAbs a => .mem (.abs a)
  | .aslAbs a => .mem (.abs a)
  | .sloAbs a => .mem (.abs a)
  | .bpl b => .relative b
  | .oraIndY b => .mem (.indY b)
  | .stp12 => .implicit
  | .sloIndY b => .mem (.indY b)
  | .nopZpX14 b => .mem (.zpX b)
  | .oraZpX b => .mem (.zpX b)
  | .aslZpX b => .mem (.zpX b)
  | .sloZpX b => .mem (.zpX b)
  | .clc => .implicit
  | .oraAbsY a => .mem (.absY a)
  | .nop1A => .implicit
  | .sloAbsY a => .mem (.absY a)
  | .nopAbsX1C a => .mem (.absX a)
  | .oraAbsX a => .mem (.absX a)
  | .aslAbsX a => .mem (.absX a)
  | .sloAbsX a => .mem (.absX a)
  | .jsrAbs a => .mem (.abs a)
  | .andIndX b => .mem (.indX b)
  | .stp22 => .implicit
  | .rlaIndX b => .mem (.indX b)
  | .bitZp b => .mem (.zp b)
  | .andZp b => .mem (.zp b)
  | .rolZp b => .mem (.zp b)
  | .rlaZp b => .mem (.zp b)
  | .plp => .implicit
  | .andImm b => .mem (.imm b)
  | .rolAcc => .accumulator
  | .ancImm2B b => .mem (.imm b)
  | .bitAbs a => .mem (.abs a)
  | .andAbs a => .mem (.abs a)
  | .rolAbs a => .mem (.abs a)
  | .rlaAbs a => .mem (.abs a)
  | .bmi b => .relative b
  | .andIndY b => .mem (.indY b)
  | .stp32 => .implicit
  | .rlaIndY b => .mem (.indY b)
  | .nopZpX34 b => .mem (.zpX b)
  | .andZpX b => .mem (.zpX b)
  | .rolZpX b => .mem (.zpX b)
  | .rlaZpX b => .mem (.zpX b)
  | .sec => .implicit
  | .andAbsY a => .mem (.absY a)
  | .nop3A => .implicit
  | .rlaAbsY a => .mem (.absY a)
  | .nopAbsX3C a => .mem (.absX a)
  | .andAbsX a => .mem (.absX a)
  | .rolAbsX a => .mem (.absX a)
  | .rlaAbsX a => .mem (.absX a)
  | .rti => .implicit
  | .eorIndX b => .mem (.indX b)
  | .stp42 => .implicit
  | .sreIndX b => .mem (.indX b)
  | .nopZp44 b => .mem (.zp b)
  | .eorZp b => .mem (.zp b)
  | .lsrZp b => .mem (.zp b)
  | .sreZp b => .mem (.zp b)
  | .pha => .implicit
  | .eorImm b => .mem (.imm b)
  | .lsrAcc => .accumulator
  | .alrImm b => .mem (.imm b)
  | .jmpAbs a => .mem (.abs a)
  | .eorAbs a => .mem (.abs a)
  | .lsrAbs a => .mem (.abs a)
  | .sreAbs a => .mem (.abs a)
  | .bvc b => .relative b
  | .eorIndY b => .mem (.indY b)
  | .stp52 => .implicit
  | .sreIndY b => .mem (.indY b)
  | .nopZpX54 b => .mem (.zpX b)
  | .eorZpX b => .mem (.zpX b)
  | .lsrZpX b => .mem (.zpX b)
  | .sreZpX b => .mem (.zpX b)
  | .cli => .implicit
  | .eorAbsY a => .mem (.absY a)
  | .nop5A => .implicit
  | .sreAbsY a => .mem (.absY a)
  | .nopAbsX5C a => .mem (.absX a)
  | .eorAbsX a => .mem (.absX a)
  | .lsrAbsX a => .mem (.absX a)
  | .sreAbsX a => .mem (.absX a)
  | .rts => .implicit
  | .adcIndX b => .mem (.indX b)
  | .stp62 => .implicit
  | .rraIndX b => .mem (.indX b)
  | .nopZp64 b => .mem (.zp b)
  | .adcZp b => .mem (.zp b)
  | .rorZp b => .mem (.zp b)
  | .rraZp b => .mem (.zp b)
  | .pla => .implicit
  | .adcImm b => .mem (.imm b)
  | .rorAcc => .accumulator
  | .arrImm b => .mem (.imm b)
  | .jmpInd a => .indirect a
  | .adcAbs a => .mem (.abs a)
  | .rorAbs a => .mem (.abs a)
  | .rraAbs a => .mem (.abs a)
  | .bvs b => .relative b
  | .adcIndY b => .mem (.indY b)
  | .stp72 => .implicit
  | .rraIndY b => .mem (.indY b)
  | .nopZpX74 b => .mem (.zpX b)
  | .adcZpX b => .mem (.zpX b)
  | .rorZpX b => .mem (.zpX b)
  | .rraZpX b => .mem (.zpX b)
  | .sei => .implicit
  | .adcAbsY a => .mem (.absY a)
  | .nop7A => .implicit
  | .rraAbsY a => .mem (.absY a)
  | .nopAbsX7C a => .mem (.absX a)
  | .adcAbsX a => .mem (.absX a)
  | .rorAbsX a => .mem (.absX a)
  | .rraAbsX a => .mem (.absX a)
  | .nopImm80 b => .mem (.imm b)
  | .staIndX b => .mem (.indX b)
  | .nopImm82 b => .mem (.imm b)
  | .saxIndX b => .mem (.indX b)
  | .styZp b => .mem (.zp b)
  | .staZp b => .mem (.zp b)
  | .stxZp b => .mem (.zp b)
  | .saxZp b => .mem (.zp b)
  | .dey => .implicit
  | .nopImm89 b => .mem (.imm b)
  | .txa => .implicit
  | .xaaImm b => .mem (.imm b)
  | .styAbs a => .mem (.abs a)
  | .staAbs a => .mem (.abs a)
  | .stxAbs a => .mem (.abs a)
  | .saxAbs a => .mem (.abs a)
  | .bcc b => .relative b
  | .staIndY b => .mem (.indY b)
  | .stp92 => .implicit
  | .ahxIndY b => .mem (.indY b)
  | .styZpX b => .mem (.zpX b)
  | .staZpX b => .mem (.zpX b)
  | .stxZpY b => .mem (.zpY b)
  | .saxZpY b => .mem (.zpY b)
  | .tya => .implicit
  | .staAbsY a => .mem (.absY a)
  | .txs => .implicit
  | .tasAbsY a => .mem (.absY a)
  | .shyAbsX a => .mem (.absX a)
  | .staAbsX a => .mem (.absX a)
  | .shxAbsY a => .mem (.absY a)
  | .ahxAbsY a => .mem (.absY a)
  | .ldyImm b => .mem (.imm b)
  | .ldaIndX b => .mem (.indX b)
  | .ldxImm b => .mem (.imm b)
  | .laxIndX b => .mem (.indX b)
  | .ldyZp b => .mem (.zp b)
  | .ldaZp b => .mem (.zp b)
  | .ldxZp b => .mem (.zp b)
  | .laxZp b => .mem (.zp b)
  | .tay => .implicit
  | .ldaImm b => .mem (.imm b)
  | .tax => .implicit
  | .laxImm b => .mem (.imm b)
  | .ldyAbs a => .mem (.abs a)
  | .ldaAbs a => .mem (.abs a)
  | .ldxAbs a => .mem (.abs a)
  | .laxAbs a => .mem (.abs a)
  | .bcs b => .relative b
  | .ldaIndY b => .mem (.indY b)
  | .stpB2 => .implicit
  | .laxIndY b => .mem (.indY b)
  | .ldyZpX b => .mem (.zpX b)
  | .ldaZpX b => .mem (.zpX b)
  | .ldxZpY b => .mem (.zpY b)
  | .laxZpY b => .mem (.zpY b)
  | .clv => .implicit
  | .ldaAbsY a => .mem (.absY a)
  | .tsx => .implicit
  | .lasAbsY a => .mem (.absY a)
  | .ldyAbsX a => .mem (.absX a)
  | .ldaAbsX a => .mem (.absX a)
  | .ldxAbsY a => .mem (.absY a)
  | .laxAbsY a => .mem (.absY a)
  | .cpyImm b => .mem (.imm b)
  | .cmpIndX b => .mem (.indX b)
  | .nopImmC2 b => .mem (.imm b)
  | .dcpIndX b => .mem (.indX b)
  | .cpyZp b => .mem (.zp b)
  | .cmpZp b => .mem (.zp b)
  | .decZp b => .mem (.zp b)
  | .dcpZp b => .mem (.zp b)
  | .iny => .implicit
  | .cmpImm b => .mem (.imm b)
  | .dex => .implicit
  | .axsImm b => .mem (.imm b)
  | .cpyAbs a => .mem (.abs a)
  | .cmpAbs a => .mem (.abs a)
  | .decAbs a => .mem (.abs a)
  | .dcpAbs a => .mem (.abs a)
  | .bne b => .relative b
  | .cmpIndY b => .mem (.indY b)
  | .stpD2 => .implicit
  | .dcpIndY b => .mem (.indY b)
  | .nopZpXD4 b => .mem (.zpX b)
  | .cmpZpX b => .mem (.zpX b)
  | .decZpX b => .mem (.zpX b)
  | .dcpZpX b => .mem (.zpX b)
  | .cld => .implicit
  | .cmpAbsY a => .mem (.absY a)
  | .nopDA => .implicit
  | .dcpAbsY a => .mem (.absY a)
  | .nopAbsXDC a => .mem (.absX a)
  | .cmpAbsX a => .mem (.absX a)
  | .decAbsX a => .mem (.absX a)
  | .dcpAbsX a => .mem (.absX a)
  | .cpxImm b => .mem (.imm b)
  | .sbcIndX b => .mem (.indX b)
  | .nopImmE2 b => .mem (.imm b)
  | .iscIndX b => .mem (.indX b)
  | .cpxZp b => .mem (.zp b)
  | .sbcZp b => .mem (.zp b)
  | .incZp b => .mem (.zp b)
  | .iscZp b => .mem (.zp b)
  | .inx => .implicit
  | .sbcImm b => .mem (.imm b)
  | .nop => .implicit
  | .sbcImmEB b => .mem (.imm b)
  | .cpxAbs a => .mem (.abs a)
  | .sbcAbs a => .mem (.abs a)
  | .incAbs a => .mem (.abs a)
  | .iscAbs a => .mem (.abs a)
  | .beq b => .relative b
  | .sbcIndY b => .mem (.indY b)
  | .stpF2 => .implicit
  | .iscIndY b => .mem (.indY b)
  | .nopZpXF4 b => .mem (.zpX b)
  | .sbcZpX b => .mem (.zpX b)
  | .incZpX b => .mem (.zpX b)
  | .iscZpX b => .mem (.zpX b)
  | .sed => .implicit
  | .sbcAbsY a => .mem (.absY a)
  | .nopFA => .implicit
  | .iscAbsY a => .mem (.absY a)
  | .nopAbsXFC a => .mem (.absX a)
  | .sbcAbsX a => .mem (.absX a)
  | .incAbsX a => .mem (.absX a)
  | .iscAbsX a => .mem (.absX a)

/-- The length of an instruction in bytes: 1 plus the "Bytes" of its mode (R81). -/
def Instr.length (i : Instr) : Nat := 1 + i.operand.mode.operandBytes

end Sys2Proof
end

