-- ==== Sys2Proof/WellFormed.lean ====
section
/-! DEFINITION. Well-formedness: which mnemonic goes with which mode (`spec/30_encoding.md` R99, transcribed
independently of `Instr`), and how many operand bytes the mode takes (R81). No operand VALUE is illegal on this
machine (R101), and the widths of the operands are those of their types. -/

namespace Sys2Proof

/-- The shape of an instruction: what the opcode byte selects (R80) and how many operand bytes follow it. -/
structure Form where
  mnemonic : Mnemonic
  mode : Mode
  operandBytes : Nat
  deriving DecidableEq, Repr

/-- The rows of R99: for each mnemonic the modes it has a cell in. -/
def modesOf : Mnemonic → List Mode
  | .ADC => [.imm, .zp, .zpX, .abs, .absX, .absY, .indX, .indY]
  | .AHX => [.absY, .indY]
  | .ALR => [.imm]
  | .ANC => [.imm]
  | .AND => [.imm, .zp, .zpX, .abs, .absX, .absY, .indX, .indY]
  | .ARR => [.imm]
  | .ASL => [.accumulator, .zp, .zpX, .abs, .absX]
  | .AXS => [.imm]
  | .BCC => [.relative]
  | .BCS => [.relative]
  | .BEQ => [.relative]
  | .BIT => [.zp, .abs]
  | .BMI => [.relative]
  | .BNE => [.relative]
  | .BPL => [.relative]
  | .BRK => [.implicit]
  | .BVC => [.relative]
  | .BVS => [.relative]
  | .CLC => [.implicit]
  | .CLD => [.implicit]
  | .CLI => [.implicit]
  | .CLV => [.implicit]
  | .CMP => [.imm, .zp, .zpX, .abs, .absX, .absY, .indX, .indY]
  | .CPX => [.imm, .zp, .abs]
  | .CPY => [.imm, .zp, .abs]
  | .DCP => [.zp, .zpX, .abs, .absX, .absY, .indX, .indY]
  | .DEC => [.zp, .zpX, .abs, .absX]
  | .DEX => [.implicit]
  | .DEY => [.implicit]
  | .EOR => [.imm, .zp, .zpX, .abs, .absX, .absY, .indX, .indY]
  | .INC => [.zp, .zpX, .abs, .absX]
  | .INX => [.implicit]
  | .INY => [.implicit]
  | .ISC => [.zp, .zpX, .abs, .absX, .absY, .indX, .indY]
  | .JMP => [.abs, .indirect]
  | .JSR => [.abs]
  | .LAS => [.absY]
  | .LAX => [.imm, .zp, .zpY, .abs, .absY, .indX, .indY]
  | .LDA => [.imm, .zp, .zpX, .abs, .absX, .absY, .indX, .indY]
  | .LDX => [.imm, .zp, .zpY, .abs, .absY]
  | .LDY => [.imm, .zp, .zpX, .abs, .absX]
  | .LSR => [.accumulator, .zp, .zpX, .abs, .absX]
  | .NOP => [.implicit, .imm, .zp, .zpX, .abs, .absX]
  | .ORA => [.imm, .zp, .zpX, .abs, .absX, .absY, .indX, .indY]
  | .PHA => [.implicit]
  | .PHP => [.implicit]
  | .PLA => [.implicit]
  | .PLP => [.implicit]
  | .RLA => [.zp, .zpX, .abs, .absX, .absY, .indX, .indY]
  | .ROL => [.accumulator, .zp, .zpX, .abs, .absX]
  | .ROR => [.accumulator, .zp, .zpX, .abs, .absX]
  | .RRA => [.zp, .zpX, .abs, .absX, .absY, .indX, .indY]
  | .RTI => [.implicit]
  | .RTS => [.implicit]
  | .SAX => [.zp, .zpY, .abs, .indX]
  | .SBC => [.imm, .zp, .zpX, .abs, .absX, .absY, .indX, .indY]
  | .SEC => [.implicit]
  | .SED => [.implicit]
  | .SEI => [.implicit]
  | .SHX => [.absY]
  | .SHY => [.absX]
  | .SLO => [.zp, .zpX, .abs, .absX, .absY, .indX, .indY]
  | .SRE => [.zp, .zpX, .abs, .absX, .absY, .indX, .indY]
  | .STA => [.zp, .zpX, .abs, .absX, .absY, .indX, .indY]
  | .STP => [.implicit]
  | .STX => [.zp, .zpY, .abs]
  | .STY => [.zp, .zpX, .abs]
  | .TAS => [.absY]
  | .TAX => [.implicit]
  | .TAY => [.implicit]
  | .TSX => [.implicit]
  | .TXA => [.implicit]
  | .TXS => [.implicit]
  | .TYA => [.implicit]
  | .XAA => [.imm]

/-- A form is well formed when the matrix has a cell for the mnemonic in the mode (R99) and the operand has the
number of bytes of the mode (R81). -/
def Form.wellFormed (f : Form) : Bool :=
  (modesOf f.mnemonic).contains f.mode && f.operandBytes == f.mode.operandBytes

/-- The form of an instruction. -/
def Instr.form (i : Instr) : Form := ⟨i.mnemonic, i.operand.mode, i.operand.byteCount⟩

/-- An instruction is well formed when its form is. -/
def Instr.wellFormed (i : Instr) : Bool := i.form.wellFormed

end Sys2Proof
end

