-- ==== Sys2Proof/Decode.lean ====
section
/-! DEFINITION. Decoding and encoding (`spec/30_encoding.md` R80, R81, R98, R102): the matrix as a table of 256
cells indexed by the opcode byte, the decoder over any bytes, and the encoder written from the opcode byte of each
cell. The byte-order helpers stand here. -/

namespace Sys2Proof

/-- `lo(w)` = w[7:0] (R8). -/
def lo (w : Addr) : Byte := w.extractLsb' 0 8

/-- `hi(w)` = w[15:8] (R8). -/
def hi (w : Addr) : Byte := w.extractLsb' 8 8

/-- The 16-bit value of two bytes, the first the more significant: the `h`:`l` of R8. -/
def join (h l : Byte) : Addr := h ++ l

/-- One cell of the matrix, by format (R80): no operand byte, one, or two. -/
inductive Cell where
  | f1 (i : Instr)
  | f2 (mk : Byte → Instr)
  | f3 (mk : Addr → Instr)

/-- Row 0x of the matrix (R98). -/
def matrixRow0 : List Cell :=
  [.f1 .brk, .f2 .oraIndX, .f1 .stp02, .f2 .sloIndX,
   .f2 .nopZp04, .f2 .oraZp, .f2 .aslZp, .f2 .sloZp,
   .f1 .php, .f2 .oraImm, .f1 .aslAcc, .f2 .ancImm0B,
   .f3 .nopAbs, .f3 .oraAbs, .f3 .aslAbs, .f3 .sloAbs]

/-- Row 1x of the matrix (R98). -/
def matrixRow1 : List Cell :=
  [.f2 .bpl, .f2 .oraIndY, .f1 .stp12, .f2 .sloIndY,
   .f2 .nopZpX14, .f2 .oraZpX, .f2 .aslZpX, .f2 .sloZpX,
   .f1 .clc, .f3 .oraAbsY, .f1 .nop1A, .f3 .sloAbsY,
   .f3 .nopAbsX1C, .f3 .oraAbsX, .f3 .aslAbsX, .f3 .sloAbsX]

/-- Row 2x of the matrix (R98). -/
def matrixRow2 : List Cell :=
  [.f3 .jsrAbs, .f2 .andIndX, .f1 .stp22, .f2 .rlaIndX,
   .f2 .bitZp, .f2 .andZp, .f2 .rolZp, .f2 .rlaZp,
   .f1 .plp, .f2 .andImm, .f1 .rolAcc, .f2 .ancImm2B,
   .f3 .bitAbs, .f3 .andAbs, .f3 .rolAbs, .f3 .rlaAbs]

/-- Row 3x of the matrix (R98). -/
def matrixRow3 : List Cell :=
  [.f2 .bmi, .f2 .andIndY, .f1 .stp32, .f2 .rlaIndY,
   .f2 .nopZpX34, .f2 .andZpX, .f2 .rolZpX, .f2 .rlaZpX,
   .f1 .sec, .f3 .andAbsY, .f1 .nop3A, .f3 .rlaAbsY,
   .f3 .nopAbsX3C, .f3 .andAbsX, .f3 .rolAbsX, .f3 .rlaAbsX]

/-- Row 4x of the matrix (R98). -/
def matrixRow4 : List Cell :=
  [.f1 .rti, .f2 .eorIndX, .f1 .stp42, .f2 .sreIndX,
   .f2 .nopZp44, .f2 .eorZp, .f2 .lsrZp, .f2 .sreZp,
   .f1 .pha, .f2 .eorImm, .f1 .lsrAcc, .f2 .alrImm,
   .f3 .jmpAbs, .f3 .eorAbs, .f3 .lsrAbs, .f3 .sreAbs]

/-- Row 5x of the matrix (R98). -/
def matrixRow5 : List Cell :=
  [.f2 .bvc, .f2 .eorIndY, .f1 .stp52, .f2 .sreIndY,
   .f2 .nopZpX54, .f2 .eorZpX, .f2 .lsrZpX, .f2 .sreZpX,
   .f1 .cli, .f3 .eorAbsY, .f1 .nop5A, .f3 .sreAbsY,
   .f3 .nopAbsX5C, .f3 .eorAbsX, .f3 .lsrAbsX, .f3 .sreAbsX]

/-- Row 6x of the matrix (R98). -/
def matrixRow6 : List Cell :=
  [.f1 .rts, .f2 .adcIndX, .f1 .stp62, .f2 .rraIndX,
   .f2 .nopZp64, .f2 .adcZp, .f2 .rorZp, .f2 .rraZp,
   .f1 .pla, .f2 .adcImm, .f1 .rorAcc, .f2 .arrImm,
   .f3 .jmpInd, .f3 .adcAbs, .f3 .rorAbs, .f3 .rraAbs]

/-- Row 7x of the matrix (R98). -/
def matrixRow7 : List Cell :=
  [.f2 .bvs, .f2 .adcIndY, .f1 .stp72, .f2 .rraIndY,
   .f2 .nopZpX74, .f2 .adcZpX, .f2 .rorZpX, .f2 .rraZpX,
   .f1 .sei, .f3 .adcAbsY, .f1 .nop7A, .f3 .rraAbsY,
   .f3 .nopAbsX7C, .f3 .adcAbsX, .f3 .rorAbsX, .f3 .rraAbsX]

/-- Row 8x of the matrix (R98). -/
def matrixRow8 : List Cell :=
  [.f2 .nopImm80, .f2 .staIndX, .f2 .nopImm82, .f2 .saxIndX,
   .f2 .styZp, .f2 .staZp, .f2 .stxZp, .f2 .saxZp,
   .f1 .dey, .f2 .nopImm89, .f1 .txa, .f2 .xaaImm,
   .f3 .styAbs, .f3 .staAbs, .f3 .stxAbs, .f3 .saxAbs]

/-- Row 9x of the matrix (R98). -/
def matrixRow9 : List Cell :=
  [.f2 .bcc, .f2 .staIndY, .f1 .stp92, .f2 .ahxIndY,
   .f2 .styZpX, .f2 .staZpX, .f2 .stxZpY, .f2 .saxZpY,
   .f1 .tya, .f3 .staAbsY, .f1 .txs, .f3 .tasAbsY,
   .f3 .shyAbsX, .f3 .staAbsX, .f3 .shxAbsY, .f3 .ahxAbsY]

/-- Row Ax of the matrix (R98). -/
def matrixRowA : List Cell :=
  [.f2 .ldyImm, .f2 .ldaIndX, .f2 .ldxImm, .f2 .laxIndX,
   .f2 .ldyZp, .f2 .ldaZp, .f2 .ldxZp, .f2 .laxZp,
   .f1 .tay, .f2 .ldaImm, .f1 .tax, .f2 .laxImm,
   .f3 .ldyAbs, .f3 .ldaAbs, .f3 .ldxAbs, .f3 .laxAbs]

/-- Row Bx of the matrix (R98). -/
def matrixRowB : List Cell :=
  [.f2 .bcs, .f2 .ldaIndY, .f1 .stpB2, .f2 .laxIndY,
   .f2 .ldyZpX, .f2 .ldaZpX, .f2 .ldxZpY, .f2 .laxZpY,
   .f1 .clv, .f3 .ldaAbsY, .f1 .tsx, .f3 .lasAbsY,
   .f3 .ldyAbsX, .f3 .ldaAbsX, .f3 .ldxAbsY, .f3 .laxAbsY]

/-- Row Cx of the matrix (R98). -/
def matrixRowC : List Cell :=
  [.f2 .cpyImm, .f2 .cmpIndX, .f2 .nopImmC2, .f2 .dcpIndX,
   .f2 .cpyZp, .f2 .cmpZp, .f2 .decZp, .f2 .dcpZp,
   .f1 .iny, .f2 .cmpImm, .f1 .dex, .f2 .axsImm,
   .f3 .cpyAbs, .f3 .cmpAbs, .f3 .decAbs, .f3 .dcpAbs]

/-- Row Dx of the matrix (R98). -/
def matrixRowD : List Cell :=
  [.f2 .bne, .f2 .cmpIndY, .f1 .stpD2, .f2 .dcpIndY,
   .f2 .nopZpXD4, .f2 .cmpZpX, .f2 .decZpX, .f2 .dcpZpX,
   .f1 .cld, .f3 .cmpAbsY, .f1 .nopDA, .f3 .dcpAbsY,
   .f3 .nopAbsXDC, .f3 .cmpAbsX, .f3 .decAbsX, .f3 .dcpAbsX]

/-- Row Ex of the matrix (R98). -/
def matrixRowE : List Cell :=
  [.f2 .cpxImm, .f2 .sbcIndX, .f2 .nopImmE2, .f2 .iscIndX,
   .f2 .cpxZp, .f2 .sbcZp, .f2 .incZp, .f2 .iscZp,
   .f1 .inx, .f2 .sbcImm, .f1 .nop, .f2 .sbcImmEB,
   .f3 .cpxAbs, .f3 .sbcAbs, .f3 .incAbs, .f3 .iscAbs]

/-- Row Fx of the matrix (R98). -/
def matrixRowF : List Cell :=
  [.f2 .beq, .f2 .sbcIndY, .f1 .stpF2, .f2 .iscIndY,
   .f2 .nopZpXF4, .f2 .sbcZpX, .f2 .incZpX, .f2 .iscZpX,
   .f1 .sed, .f3 .sbcAbsY, .f1 .nopFA, .f3 .iscAbsY,
   .f3 .nopAbsXFC, .f3 .sbcAbsX, .f3 .incAbsX, .f3 .iscAbsX]

/-- The matrix (R98): cell number k is that of the opcode byte k. -/
def opcodeMatrix : List Cell :=
  matrixRow0 ++ matrixRow1 ++ matrixRow2 ++ matrixRow3 ++
  matrixRow4 ++ matrixRow5 ++ matrixRow6 ++ matrixRow7 ++
  matrixRow8 ++ matrixRow9 ++ matrixRowA ++ matrixRowB ++
  matrixRowC ++ matrixRowD ++ matrixRowE ++ matrixRowF

theorem opcodeMatrix_length : opcodeMatrix.length = 256 := by
  simp only [opcodeMatrix, matrixRow0, matrixRow1, matrixRow2, matrixRow3, matrixRow4, matrixRow5, matrixRow6, matrixRow7,
    matrixRow8, matrixRow9, matrixRowA, matrixRowB, matrixRowC, matrixRowD, matrixRowE, matrixRowF,
    List.length_append, List.length_cons, List.length_nil]

/-- The cell of an opcode byte: every byte has one (R101). -/
def cellOf (op : Byte) : Cell :=
  opcodeMatrix[op.toNat]'(opcodeMatrix_length ▸ op.isLt)

/-- A cell with its operand bytes filled in; bytes that the format does not have are not looked at (R80). -/
def fillCell (c : Cell) (b1 b2 : Byte) : Instr :=
  match c with
  | .f1 i => i
  | .f2 mk => mk b1
  | .f3 mk => mk (join b2 b1)

/-- The instruction of an opcode byte and the two bytes after it. -/
def decodeOpcode (op b1 b2 : Byte) : Instr := fillCell (cellOf op) b1 b2

/-- Why a string of bytes holds no instruction. No opcode byte is illegal (R101): only bytes can be missing. -/
inductive DecodeError where
  | noOpcodeByte
  | operandBytesMissing
  deriving DecidableEq, Repr

/-- Decoding of any bytes: the first instruction and the bytes after it (R80, R102). -/
def decode : List Byte → Except DecodeError (Instr × List Byte)
  | [] => .error .noOpcodeByte
  | op :: rest =>
    match cellOf op, rest with
    | .f1 i, rest => .ok (i, rest)
    | .f2 mk, b1 :: rest => .ok (mk b1, rest)
    | .f3 mk, b1 :: b2 :: rest => .ok (mk (join b2 b1), rest)
    | .f2 _, [] => .error .operandBytesMissing
    | .f3 _, [] => .error .operandBytesMissing
    | .f3 _, [_] => .error .operandBytesMissing

/-- The opcode byte of each instruction (R99 and the "Encodings" line of its rule). -/
def Instr.opcode : Instr → Byte
  | .brk => 0x00
  | .oraIndX _ => 0x01
  | .stp02 => 0x02
  | .sloIndX _ => 0x03
  | .nopZp04 _ => 0x04
  | .oraZp _ => 0x05
  | .aslZp _ => 0x06
  | .sloZp _ => 0x07
  | .php => 0x08
  | .oraImm _ => 0x09
  | .aslAcc => 0x0A
  | .ancImm0B _ => 0x0B
  | .nopAbs _ => 0x0C
  | .oraAbs _ => 0x0D
  | .aslAbs _ => 0x0E
  | .sloAbs _ => 0x0F
  | .bpl _ => 0x10
  | .oraIndY _ => 0x11
  | .stp12 => 0x12
  | .sloIndY _ => 0x13
  | .nopZpX14 _ => 0x14
  | .oraZpX _ => 0x15
  | .aslZpX _ => 0x16
  | .sloZpX _ => 0x17
  | .clc => 0x18
  | .oraAbsY _ => 0x19
  | .nop1A => 0x1A
  | .sloAbsY _ => 0x1B
  | .nopAbsX1C _ => 0x1C
  | .oraAbsX _ => 0x1D
  | .aslAbsX _ => 0x1E
  | .sloAbsX _ => 0x1F
  | .jsrAbs _ => 0x20
  | .andIndX _ => 0x21
  | .stp22 => 0x22
  | .rlaIndX _ => 0x23
  | .bitZp _ => 0x24
  | .andZp _ => 0x25
  | .rolZp _ => 0x26
  | .rlaZp _ => 0x27
  | .plp => 0x28
  | .andImm _ => 0x29
  | .rolAcc => 0x2A
  | .ancImm2B _ => 0x2B
  | .bitAbs _ => 0x2C
  | .andAbs _ => 0x2D
  | .rolAbs _ => 0x2E
  | .rlaAbs _ => 0x2F
  | .bmi _ => 0x30
  | .andIndY _ => 0x31
  | .stp32 => 0x32
  | .rlaIndY _ => 0x33
  | .nopZpX34 _ => 0x34
  | .andZpX _ => 0x35
  | .rolZpX _ => 0x36
  | .rlaZpX _ => 0x37
  | .sec => 0x38
  | .andAbsY _ => 0x39
  | .nop3A => 0x3A
  | .rlaAbsY _ => 0x3B
  | .nopAbsX3C _ => 0x3C
  | .andAbsX _ => 0x3D
  | .rolAbsX _ => 0x3E
  | .rlaAbsX _ => 0x3F
  | .rti => 0x40
  | .eorIndX _ => 0x41
  | .stp42 => 0x42
  | .sreIndX _ => 0x43
  | .nopZp44 _ => 0x44
  | .eorZp _ => 0x45
  | .lsrZp _ => 0x46
  | .sreZp _ => 0x47
  | .pha => 0x48
  | .eorImm _ => 0x49
  | .lsrAcc => 0x4A
  | .alrImm _ => 0x4B
  | .jmpAbs _ => 0x4C
  | .eorAbs _ => 0x4D
  | .lsrAbs _ => 0x4E
  | .sreAbs _ => 0x4F
  | .bvc _ => 0x50
  | .eorIndY _ => 0x51
  | .stp52 => 0x52
  | .sreIndY _ => 0x53
  | .nopZpX54 _ => 0x54
  | .eorZpX _ => 0x55
  | .lsrZpX _ => 0x56
  | .sreZpX _ => 0x57
  | .cli => 0x58
  | .eorAbsY _ => 0x59
  | .nop5A => 0x5A
  | .sreAbsY _ => 0x5B
  | .nopAbsX5C _ => 0x5C
  | .eorAbsX _ => 0x5D
  | .lsrAbsX _ => 0x5E
  | .sreAbsX _ => 0x5F
  | .rts => 0x60
  | .adcIndX _ => 0x61
  | .stp62 => 0x62
  | .rraIndX _ => 0x63
  | .nopZp64 _ => 0x64
  | .adcZp _ => 0x65
  | .rorZp _ => 0x66
  | .rraZp _ => 0x67
  | .pla => 0x68
  | .adcImm _ => 0x69
  | .rorAcc => 0x6A
  | .arrImm _ => 0x6B
  | .jmpInd _ => 0x6C
  | .adcAbs _ => 0x6D
  | .rorAbs _ => 0x6E
  | .rraAbs _ => 0x6F
  | .bvs _ => 0x70
  | .adcIndY _ => 0x71
  | .stp72 => 0x72
  | .rraIndY _ => 0x73
  | .nopZpX74 _ => 0x74
  | .adcZpX _ => 0x75
  | .rorZpX _ => 0x76
  | .rraZpX _ => 0x77
  | .sei => 0x78
  | .adcAbsY _ => 0x79
  | .nop7A => 0x7A
  | .rraAbsY _ => 0x7B
  | .nopAbsX7C _ => 0x7C
  | .adcAbsX _ => 0x7D
  | .rorAbsX _ => 0x7E
  | .rraAbsX _ => 0x7F
  | .nopImm80 _ => 0x80
  | .staIndX _ => 0x81
  | .nopImm82 _ => 0x82
  | .saxIndX _ => 0x83
  | .styZp _ => 0x84
  | .staZp _ => 0x85
  | .stxZp _ => 0x86
  | .saxZp _ => 0x87
  | .dey => 0x88
  | .nopImm89 _ => 0x89
  | .txa => 0x8A
  | .xaaImm _ => 0x8B
  | .styAbs _ => 0x8C
  | .staAbs _ => 0x8D
  | .stxAbs _ => 0x8E
  | .saxAbs _ => 0x8F
  | .bcc _ => 0x90
  | .staIndY _ => 0x91
  | .stp92 => 0x92
  | .ahxIndY _ => 0x93
  | .styZpX _ => 0x94
  | .staZpX _ => 0x95
  | .stxZpY _ => 0x96
  | .saxZpY _ => 0x97
  | .tya => 0x98
  | .staAbsY _ => 0x99
  | .txs => 0x9A
  | .tasAbsY _ => 0x9B
  | .shyAbsX _ => 0x9C
  | .staAbsX _ => 0x9D
  | .shxAbsY _ => 0x9E
  | .ahxAbsY _ => 0x9F
  | .ldyImm _ => 0xA0
  | .ldaIndX _ => 0xA1
  | .ldxImm _ => 0xA2
  | .laxIndX _ => 0xA3
  | .ldyZp _ => 0xA4
  | .ldaZp _ => 0xA5
  | .ldxZp _ => 0xA6
  | .laxZp _ => 0xA7
  | .tay => 0xA8
  | .ldaImm _ => 0xA9
  | .tax => 0xAA
  | .laxImm _ => 0xAB
  | .ldyAbs _ => 0xAC
  | .ldaAbs _ => 0xAD
  | .ldxAbs _ => 0xAE
  | .laxAbs _ => 0xAF
  | .bcs _ => 0xB0
  | .ldaIndY _ => 0xB1
  | .stpB2 => 0xB2
  | .laxIndY _ => 0xB3
  | .ldyZpX _ => 0xB4
  | .ldaZpX _ => 0xB5
  | .ldxZpY _ => 0xB6
  | .laxZpY _ => 0xB7
  | .clv => 0xB8
  | .ldaAbsY _ => 0xB9
  | .tsx => 0xBA
  | .lasAbsY _ => 0xBB
  | .ldyAbsX _ => 0xBC
  | .ldaAbsX _ => 0xBD
  | .ldxAbsY _ => 0xBE
  | .laxAbsY _ => 0xBF
  | .cpyImm _ => 0xC0
  | .cmpIndX _ => 0xC1
  | .nopImmC2 _ => 0xC2
  | .dcpIndX _ => 0xC3
  | .cpyZp _ => 0xC4
  | .cmpZp _ => 0xC5
  | .decZp _ => 0xC6
  | .dcpZp _ => 0xC7
  | .iny => 0xC8
  | .cmpImm _ => 0xC9
  | .dex => 0xCA
  | .axsImm _ => 0xCB
  | .cpyAbs _ => 0xCC
  | .cmpAbs _ => 0xCD
  | .decAbs _ => 0xCE
  | .dcpAbs _ => 0xCF
  | .bne _ => 0xD0
  | .cmpIndY _ => 0xD1
  | .stpD2 => 0xD2
  | .dcpIndY _ => 0xD3
  | .nopZpXD4 _ => 0xD4
  | .cmpZpX _ => 0xD5
  | .decZpX _ => 0xD6
  | .dcpZpX _ => 0xD7
  | .cld => 0xD8
  | .cmpAbsY _ => 0xD9
  | .nopDA => 0xDA
  | .dcpAbsY _ => 0xDB
  | .nopAbsXDC _ => 0xDC
  | .cmpAbsX _ => 0xDD
  | .decAbsX _ => 0xDE
  | .dcpAbsX _ => 0xDF
  | .cpxImm _ => 0xE0
  | .sbcIndX _ => 0xE1
  | .nopImmE2 _ => 0xE2
  | .iscIndX _ => 0xE3
  | .cpxZp _ => 0xE4
  | .sbcZp _ => 0xE5
  | .incZp _ => 0xE6
  | .iscZp _ => 0xE7
  | .inx => 0xE8
  | .sbcImm _ => 0xE9
  | .nop => 0xEA
  | .sbcImmEB _ => 0xEB
  | .cpxAbs _ => 0xEC
  | .sbcAbs _ => 0xED
  | .incAbs _ => 0xEE
  | .iscAbs _ => 0xEF
  | .beq _ => 0xF0
  | .sbcIndY _ => 0xF1
  | .stpF2 => 0xF2
  | .iscIndY _ => 0xF3
  | .nopZpXF4 _ => 0xF4
  | .sbcZpX _ => 0xF5
  | .incZpX _ => 0xF6
  | .iscZpX _ => 0xF7
  | .sed => 0xF8
  | .sbcAbsY _ => 0xF9
  | .nopFA => 0xFA
  | .iscAbsY _ => 0xFB
  | .nopAbsXFC _ => 0xFC
  | .sbcAbsX _ => 0xFD
  | .incAbsX _ => 0xFE
  | .iscAbsX _ => 0xFF

/-- The operand bytes, `b1` first (R52, R80). -/
def Operand.bytes : Operand → List Byte
  | .implicit => []
  | .accumulator => []
  | .relative b => [b]
  | .indirect a => [lo a, hi a]
  | .mem (.imm b) => [b]
  | .mem (.zp b) => [b]
  | .mem (.zpX b) => [b]
  | .mem (.zpY b) => [b]
  | .mem (.abs a) => [lo a, hi a]
  | .mem (.absX a) => [lo a, hi a]
  | .mem (.absY a) => [lo a, hi a]
  | .mem (.indX b) => [b]
  | .mem (.indY b) => [b]

/-- The bytes of an instruction in ascending address order (R52, R80). -/
def encode (i : Instr) : List Byte := i.opcode :: i.operand.bytes

/-- Byte number k of a number whose least significant `nbits` bits count: bit 0 of the number is bit 0 of byte 0. -/
def wordByte (nbits w k : Nat) : Byte := BitVec.ofNat 8 (w % 2 ^ nbits / 2 ^ (8 * k))

/-- The three bytes of an instruction word: the longest instruction has three (R81). -/
def wordBytes (nbits w : Nat) : List Byte := [wordByte nbits w 0, wordByte nbits w 1, wordByte nbits w 2]

/-- The instruction that the decoder reads from the bits `w`, numbered from the first byte's least significant bit;
the bits above `nbits` are 0. A word of no bits, or of more bits than the longest instruction, is refused. -/
def decodeTableWord (nbits w : Nat) : Option Instr :=
  if nbits = 0 ∨ 24 < nbits then none
  else
    match decode (wordBytes nbits w) with
    | .ok (i, _) => some i
    | .error _ => none

end Sys2Proof
end

