-- ==== Sys2Proof/Config.lean ====
section
/-! DEFINITION. The implementation parameters of `spec/00_scope.md` R7: the fixed ones as constants, the open
ones as what a state is given of them, with constants without a body (nothing can be proved of their values) for what
it is not given, and the types they range over. A state carries its `Settings`, so a step takes the open parameters as
an argument. -/

namespace Sys2Proof

/-- `DECIMAL_MODE` (R7, R171, D10): what ADC and SBC do with D = 1. -/
inductive DecimalMode where
  | /-- D has no effect. -/ binary
  | /-- The algorithm of NMOS silicon that R171 gives. -/ nmosBcd
  | /-- ADC, SBC, RRA, ISC and ARR with D = 1 have no meaning. -/ refuse
  deriving DecidableEq, Repr

/-- `UNDOC_POLICY` (R7, R270, D19): which undocumented cells have a meaning. -/
inductive UndocPolicy where
  | refuseAll
  | stableOnly
  | allWithMagic
  deriving DecidableEq, Repr

/-- The columns of the policy table of R270. -/
inductive UndocClass where
  | /-- The 27 extra NOP cells and SBC $EB. -/ same
  | /-- The 12 STP cells. -/ halt
  | /-- The 58 cells of R275 to R287. -/ stable
  | /-- The 7 cells of R288 to R293. -/ unstable
  deriving DecidableEq, Repr

/-- What can lie at an address (R7 `Platform`, D12). -/
inductive RegionKind where
  | /-- A read returns the last byte written (R64). -/ ram
  | /-- A read returns the byte it holds; a write changes nothing (log 23). -/ rom
  | /-- What a read returns is open; a write changes no memory (R64; log 23). -/ device
  | /-- What a read returns is open (U15); a write changes nothing (log 23). -/ nothing
  deriving DecidableEq, Repr

/-- A stretch of addresses, both ends in it, and what lies there. -/
structure Region where
  first : Addr
  last : Addr
  kind : RegionKind
  deriving DecidableEq, Repr

/-- The values of the open parameters that an instruction rule reads (R7). -/
structure Params where
  decimalMode : DecimalMode
  /-- `JMP_IND_PAGE_WRAP` (R90, D11): true is NMOS silicon, false the source's formula. -/
  jmpIndPageWrap : Bool
  undocPolicy : UndocPolicy
  /-- `MAGIC` (R288, R289): the 8-bit constant inside XAA and LAX #i. -/
  magic : Byte
  deriving DecidableEq, Repr

/-- The open parameters as a machine is given them (R7). `none` is a value not given: nothing is known of it but what
the constant of `Config` that stands for it allows. -/
structure Settings where
  /-- `DECIMAL_MODE` (R171, D10). -/
  decimalMode : Option DecimalMode
  /-- `JMP_IND_PAGE_WRAP` (R90, D11). -/
  jmpIndPageWrap : Option Bool
  /-- `UNDOC_POLICY` (R270, D19). -/
  undocPolicy : UndocPolicy
  /-- `MAGIC` (R288, R289). -/
  magic : Option Byte
  /-- `Platform` (D12): the first region that holds an address says what lies there, RAM where none does. -/
  platform : List Region
  deriving DecidableEq, Repr

/-- `RESET_A`, `RESET_X`, `RESET_Y`, `RESET_S` and `RESET_FLAGS` (R7, R41, D18): what a reset leaves in the
registers and flags of which R370 says "become unspecified (any value)". -/
structure ResetValues where
  a : Byte
  x : Byte
  y : Byte
  sp : Byte
  c : Bool
  z : Bool
  d : Bool
  v : Bool
  n : Bool
  deriving DecidableEq, Repr, Inhabited

namespace Config

/-- DESIGN CHOICE (safe, log 5): a `DECIMAL_MODE` not given is `nmos_bcd` or `binary`, which of the two is left without
a value. -/
opaque decimalIsBcd : Bool

/-- DESIGN CHOICE (safe, log 6): a `JMP_IND_PAGE_WRAP` not given is left without a value. -/
opaque jmpIndPageWrap : Bool

/-- DESIGN CHOICE (unsafe, log 8): a `MAGIC` not given is left without a value. -/
opaque magic : Byte

/-- DESIGN CHOICE (safe, log 4): the values that the reset numbered by the argument leaves (R370). -/
opaque resetValues : Nat → ResetValues

/-- DESIGN CHOICE (unsafe, log 23): the byte that a read of an address without memory returns in the step numbered by
the first argument (R64, U15). -/
opaque openRead : Nat → Addr → Byte

/-- `STACK_PAGE` (R7, R56). -/
def stackPage : Byte := 0x01

/-- `VEC_NMI` (R7, R63). -/
def vecNmi : Addr := 0xFFFA

/-- `VEC_RESET` (R7, R63). -/
def vecReset : Addr := 0xFFFC

/-- `VEC_IRQ`, shared by IRQ and BRK (R7, R63). -/
def vecIrq : Addr := 0xFFFE

end Config

end Sys2Proof
end

