-- ==== Sys2Proof/Machine/Params.lean ====
section
/-! DEFINITION. What the open parameters of `spec/00_scope.md` R7 say to the rules: the values that instructions read,
the policy on undocumented cells (`spec/46_undocumented.md` R270), what lies at an address (R64, D12), and the settings
of the state after reset. -/

namespace Sys2Proof.Machine

/-- The values of the parameters (R7): those given, and for the others the constants without a body. -/
def settingsParams (k : Settings) : Params where
  decimalMode := k.decimalMode.getD (if Config.decimalIsBcd then .nmosBcd else .binary)
  jmpIndPageWrap := k.jmpIndPageWrap.getD Config.jmpIndPageWrap
  undocPolicy := k.undocPolicy
  magic := k.magic.getD Config.magic

/-- What lies at an address (R7 `Platform`, D12). -/
def platformKind : List Region → Addr → RegionKind
  | [], _ => .ram
  | r :: rs, a => if r.first.toNat ≤ a.toNat ∧ a.toNat ≤ r.last.toNat then r.kind else platformKind rs a

/-- Whether a read returns the byte held (R64). -/
def kindReadable : RegionKind → Bool
  | .ram => true
  | .rom => true
  | .device => false
  | .nothing => false

/-- Whether a write changes the byte held (R64). -/
def kindWritable : RegionKind → Bool
  | .ram => true
  | .rom => false
  | .device => false
  | .nothing => false

/-- The policy table (R270): whether a cell of the class has its meaning under the policy. -/
def undocAllowed : UndocPolicy → UndocClass → Bool
  | .refuseAll, _ => false
  | .stableOnly, .unstable => false
  | .stableOnly, _ => true
  | .allWithMagic, _ => true

/-- The settings of the state after reset. DESIGN CHOICE (unsafe, log 1, log 7): RAM at every address, and
`UNDOC_POLICY` is `all_with_magic`, so that every cell has its meaning. The other parameters are not given (log 5, log
6, log 8). -/
def resetSettings : Settings where
  decimalMode := none
  jmpIndPageWrap := none
  undocPolicy := .allWithMagic
  magic := none
  platform := []

end Sys2Proof.Machine
end

