-- ==== Sys2Proof/Machine/State.lean ====
section
/-! DEFINITION. The state of the machine (`spec/10_state.md` R20, R39), the reasons a step can stop, and the state
after reset (R41). -/

namespace Sys2Proof.Machine

/-- The six stored flags of P (R20, R29). B and bit 5 are not stored (R36). -/
structure Flags where
  /-- C, carry (R30). -/
  c : Bool
  /-- Z, zero (R31). -/
  z : Bool
  /-- I, interrupt disable (R32). -/
  i : Bool
  /-- D, decimal (R33). -/
  d : Bool
  /-- V, overflow (R34). -/
  v : Bool
  /-- N, negative (R35). -/
  n : Bool
  deriving DecidableEq, Repr

/-- What the environment presents at one step boundary (R332, R333, D15). -/
structure StepInput where
  /-- The level of the interrupt-request line. -/
  irqLine : Bool
  /-- Whether an edge of the non-maskable interrupt line arrived. -/
  nmiEdge : Bool
  /-- Whether a reset is requested. -/
  reset : Bool
  deriving DecidableEq, Repr

/-- Memory: the bytes that differ from what an unlisted address reads as, at strictly rising addresses (R50). It holds
what RAM and ROM hold. -/
abbrev Memory := List Host.Cell

/-- The state of the machine: the registers and memory of R20, the hidden state of R39, the environment's coming
inputs (R333), the open parameters (R7), and three fields of the model's own: a ghost cycle count (R380, D22) and the
numbers of resets and of steps taken. -/
structure State where
  /-- A, the accumulator (R21). -/
  a : Byte
  /-- X (R22). -/
  x : Byte
  /-- Y (R23). -/
  y : Byte
  /-- S, the stack pointer (R24). -/
  sp : Byte
  /-- PC (R25, R26). -/
  pc : Addr
  /-- P, the stored flags (R29). -/
  p : Flags
  mem : Memory
  /-- `irq_line` (R39). -/
  irqLine : Bool
  /-- `nmi_pending` (R39). -/
  nmiPending : Bool
  /-- `i_for_poll` (R39, R336). -/
  iForPoll : Bool
  /-- `stopped` (R39, R271). -/
  stopped : Bool
  /-- The inputs of the coming step boundaries, the next one first (R333; DESIGN CHOICE, log 9). When the list is
  empty the IRQ line keeps its level and nothing else is requested. -/
  inputs : List StepInput
  /-- The open parameters of R7, which no step changes (log 1, log 5 to log 8). -/
  settings : Settings
  /-- The model's own: selects the free values of the next reset (R370; log 4). -/
  resetCount : Nat
  /-- The model's own: the number of steps taken, which selects the free bytes that the next step reads where no memory
  lies (R64, U15; log 23). -/
  steps : Nat
  /-- The model's own: the ghost cycle count (R380, D22; log 15). -/
  cycles : Nat
  deriving DecidableEq, Repr

/-- The one way the machine stops with a fault. -/
inductive Fault where
  | /-- Raised by `step` when the machine is stopped (an STP was executed) and no reset is requested: "the machine
    is stuck: it has no further step" (R271, R333). Safe: the spec gives no step here. -/
    stuck
  deriving DecidableEq, Repr

/-- The cases that the spec refuses ("the spec gives the instruction no meaning", R8). All are safe. -/
inductive Refusal where
  | /-- An instruction whose arm of `exec` has no meaning yet. Safe. No arm answers it now. -/
    notModelled (mnemonic : String)
  | /-- Raised by an undocumented cell that the state's `UNDOC_POLICY` withdraws (R270). Safe. Not met under
    `all_with_magic`, the policy of the state after reset (log 7). -/
    undocumentedCell
  | /-- Raised by ADC, SBC, RRA, ISC, ARR with D = 1 under `DECIMAL_MODE = refuse` (R171). Safe. Not met under the
    settings of the state after reset (log 5). -/
    decimalModeRefused
  | /-- Raised by ARR with D = 1 under `DECIMAL_MODE = nmos_bcd` (R285, U10; log 17). Safe. -/
    arrDecimal
  | /-- Raised by AHX, TAS, SHY, SHX when the indexed address crosses a page (R290 to R293, U9; log 18). Safe. -/
    unstableStoreCrossesPage
  deriving DecidableEq, Repr

/-- The outcome of an instruction or of a step. -/
abbrev Result := Host.Outcome State Fault Refusal

/-- The machine right after reset (R41, R370): I = 1, nmi_pending = 0, i_for_poll = 1, stopped = 0, nothing listed
in memory, and PC the word at $FFFC, which is $0000 in that memory. DESIGN CHOICE (unsafe, log 3): A, X, Y, C, Z, D,
V, N are 0 and S is $FD, of which R41 says "unspecified". The open parameters are those of `resetSettings`. -/
def State.reset : State where
  a := 0x00
  x := 0x00
  y := 0x00
  sp := 0xFD
  pc := 0x0000
  p := { c := false, z := false, i := true, d := false, v := false, n := false }
  mem := []
  irqLine := false
  nmiPending := false
  iForPoll := true
  stopped := false
  inputs := []
  settings := resetSettings
  resetCount := 0
  steps := 0
  cycles := 0

end Sys2Proof.Machine
end

