-- ==== Sys2Proof/Machine/Ops.lean ====
section
/-! DEFINITION. The named operations over memory, registers and the stack (`spec/20_memory.md`), the status byte
(`spec/10_state.md` R37, R38), taking an interrupt or BRK and returning from one (`spec/60_exceptions.md` R338, R340),
reset (`spec/70_reset_and_hazards.md` R370), and the inputs and the decision of a step boundary (R333). -/

namespace Sys2Proof.Machine

/-! ### The open parameters of the state (R7) -/

/-- The parameters that the instructions read (R7). -/
def State.params (s : State) : Params := settingsParams s.settings

/-- What lies at an address (R7 `Platform`, D12). -/
def State.kindAt (s : State) (a : Addr) : RegionKind := platformKind s.settings.platform a

/-- Whether the byte held at an address is what a read returns: RAM or ROM (R64). -/
def State.readable (s : State) (a : Addr) : Bool := kindReadable (s.kindAt a)

/-- Whether a write changes the byte held at an address: RAM (R64). -/
def State.writable (s : State) (a : Addr) : Bool := kindWritable (s.kindAt a)

/-- An undocumented cell's meaning behind the policy of the state (R270). -/
def undocumented (s : State) (cl : UndocClass) (r : Result) : Result :=
  if undocAllowed s.params.undocPolicy cl then r else .refused .undocumentedCell

/-! ### Memory (R50, R55, R64) -/

/-- What an address that memory does not list reads as. DESIGN CHOICE (unsafe, log 2): R41 leaves RAM unspecified. -/
def unlistedByte : Byte := 0x00

/-- The byte at an address. -/
def Memory.read : Memory → Nat → Byte
  | [], _ => unlistedByte
  | (k, v) :: m, a => if k = a then v else Memory.read m a

/-- Memory without an entry for the address. -/
def Memory.erase (m : Memory) (a : Nat) : Memory := m.filter fun c => c.1 != a

/-- A new entry at its place in the rising order; the address is not listed before. -/
def Memory.insert : Memory → Nat → Byte → Memory
  | [], a, v => [(a, v)]
  | (k, w) :: m, a, v => if a < k then (a, v) :: (k, w) :: m else (k, w) :: Memory.insert m a v

/-- A byte stored: the entry of the address is replaced, and removed if the byte is what an unlisted address reads. -/
def Memory.write (m : Memory) (a : Nat) (v : Byte) : Memory :=
  if v = unlistedByte then Memory.erase m a else Memory.insert (Memory.erase m a) a v

/-- The addresses rise strictly. -/
def Memory.rising : Memory → Bool
  | [] => true
  | [_] => true
  | c :: d :: m => decide (c.1 < d.1) && Memory.rising (d :: m)

/-- The canonical form of memory: rising addresses below 65,536 (R50), no entry that an unlisted address reads as. -/
def Memory.wf (m : Memory) : Bool :=
  Memory.rising m && m.all fun c => decide (c.1 < 65536) && c.2 != unlistedByte

/-- `MemRead(addr, 1)` (R8, R55): the byte held in RAM or ROM, and elsewhere, where the platform leaves it open what a
read returns, the free byte of this step and address (R64, U15; log 23). -/
def State.read (s : State) (a : Addr) : Byte :=
  if s.readable a then Memory.read s.mem a.toNat else Config.openRead s.steps a

/-! ### Updates of one piece of state -/

def State.setA (s : State) (v : Byte) : State := { s with a := v }
def State.setX (s : State) (v : Byte) : State := { s with x := v }
def State.setY (s : State) (v : Byte) : State := { s with y := v }
def State.setSp (s : State) (v : Byte) : State := { s with sp := v }
def State.setPc (s : State) (v : Addr) : State := { s with pc := v }
def State.setP (s : State) (v : Flags) : State := { s with p := v }

/-- `MemWrite(addr, 1, v)` (R8, R55): the byte held in RAM changes; a write elsewhere changes nothing (R64; log 23). -/
def State.write (s : State) (a : Addr) (v : Byte) : State :=
  { s with mem := if s.writable a then Memory.write s.mem a.toNat v else s.mem }

/-- PC past an instruction of the length: `PC <- PC0 +_16 len` (R27). -/
def State.advance (s : State) (len : Nat) : State := s.setPc (s.pc + BitVec.ofNat 16 len)

/-! ### 16-bit reads, low byte first (R52, R54) -/

/-- `Read16(addr)` (R54). -/
def State.read16 (s : State) (a : Addr) : Addr := join (s.read (a + 1)) (s.read a)

/-- `zext_16(v)` (R8). -/
def zext16 (v : Byte) : Addr := v.setWidth 16

/-- `sext_8(v)` as a 16-bit displacement (R8, R87). -/
def sext16 (v : Byte) : Addr := v.signExtend 16

/-- `ReadZP16(z)` (R54): both bytes come from page zero. -/
def State.readZP16 (s : State) (z : Byte) : Addr := join (s.read (zext16 (z + 1))) (s.read (zext16 z))

/-- The address of the pointer's high byte in `ReadInd16(a)` (R54, R90): the parameter matters when `lo(a)` is $FF. -/
def indHighAddr (k : Params) (a : Addr) : Addr :=
  if lo a = 0xFF then (if k.jmpIndPageWrap then join (hi a) (lo a + 1) else a + 1) else a + 1

/-- `ReadInd16(a)` (R54, R90). -/
def State.readInd16 (s : State) (a : Addr) : Addr := join (s.read (indHighAddr s.params a)) (s.read a)

/-! ### The stack (R56 to R61) -/

/-- The address of a byte of the stack page (R56). -/
def stackAddr (sp : Byte) : Addr := join Config.stackPage sp

/-- `Push(v)` (R57). -/
def State.push (s : State) (v : Byte) : State := (s.write (stackAddr s.sp) v).setSp (s.sp - 1)

/-- The byte that `Pull()` returns (R58). -/
def State.top (s : State) : Byte := s.read (stackAddr (s.sp + 1))

/-- The state after `Pull()` (R58). -/
def State.drop (s : State) : State := s.setSp (s.sp + 1)

/-- `Push16(w)` (R59): the high byte first. -/
def State.push16 (s : State) (w : Addr) : State := (s.push (hi w)).push (lo w)

/-- The word that `Pull16()` returns (R60): the low byte first. -/
def State.top16 (s : State) : Addr := join s.drop.top s.top

/-- The state after `Pull16()` (R60). -/
def State.drop16 (s : State) : State := s.drop.drop

/-! ### The status byte (R29, R37, R38) -/

/-- `PByte(b)` (R37). -/
def Flags.toByte (p : Flags) (b : Bool) : Byte :=
  BitVec.ofNat 8 (p.n.toNat * 128 + p.v.toNat * 64 + 32 + b.toNat * 16 + p.d.toNat * 8 + p.i.toNat * 4 + p.z.toNat * 2
    + p.c.toNat)

/-- The flags that `SetP(v)` writes (R38): bits 4 and 5 are discarded. -/
def Flags.ofByte (v : Byte) : Flags where
  c := v.getLsbD 0
  z := v.getLsbD 1
  i := v.getLsbD 2
  d := v.getLsbD 3
  v := v.getLsbD 6
  n := v.getLsbD 7

/-! ### Taking BRK, IRQ or NMI, and the return (R338, R340) -/

/-- `I <- v`. -/
def State.setI (s : State) (v : Bool) : State := s.setP { s.p with i := v }

/-- The three pushes of `Enter` (R338): the return address, then P as it is before I is set. -/
def State.pushFrame (s : State) (ret : Addr) (b : Bool) : State := (s.push16 ret).push (s.p.toByte b)

/-- `Enter(ret, b, vec)` (R338): PC and P are pushed, I is set, PC is loaded from the vector. -/
def State.enter (s : State) (ret : Addr) (b : Bool) (vec : Addr) : State :=
  ((s.pushFrame ret b).setI true).setPc ((s.pushFrame ret b).read16 vec)

/-- The return from an interrupt (R261, R340): P, then PC, are pulled; nothing is added. -/
def State.returnFromInterrupt (s : State) : State :=
  let t := s.drop.setP (Flags.ofByte s.top)
  t.drop16.setPc t.top16

/-! ### The step boundary (R332 to R337, R370) -/

/-- Whether the environment requests a reset at this boundary (R333). -/
def State.resetRequested (s : State) : Bool :=
  match s.inputs with
  | [] => false
  | e :: _ => e.reset

/-- The environment's input of this boundary taken in (R332, R333): the IRQ line has the level presented, an NMI edge
sets the latch. With no input left the line keeps its level. -/
def State.takeInput (s : State) : State :=
  match s.inputs with
  | [] => s
  | e :: rest => { s with inputs := rest, irqLine := e.irqLine, nmiPending := s.nmiPending || e.nmiEdge }

/-- What a step does (R333). -/
inductive Event where
  | reset
  | stuck
  | nmi
  | irq
  | instruction
  deriving DecidableEq, Repr

/-- The decision of the step boundary, in the order of R333 and R337. -/
def boundaryEvent (resetRequested : Bool) (s : State) : Event :=
  if resetRequested then .reset
  else if s.stopped then .stuck
  else if s.nmiPending then .nmi
  else if s.irqLine && !s.iForPoll then .irq
  else .instruction

/-- The ghost cost of an interrupt entry and of a reset (R338, R370, R380). -/
def entryCycles : Nat := 7

/-- The NMI entry (R333, R335). -/
def State.takeNmi (s : State) : State :=
  let t := ({ s with nmiPending := false } : State).enter s.pc false Config.vecNmi
  { t with iForPoll := true, steps := t.steps + 1, cycles := t.cycles + entryCycles }

/-- The IRQ entry (R333, R334). The line is left as it is. -/
def State.takeIrq (s : State) : State :=
  let t := s.enter s.pc false Config.vecIrq
  { t with iForPoll := true, steps := t.steps + 1, cycles := t.cycles + entryCycles }

/-- Reset (R370): I is set, PC comes from the vector, the hidden state is cleared, memory is left alone, and the
registers and flags that "become unspecified" take the given values. -/
def State.takeReset (s : State) (r : ResetValues) : State :=
  { s with
    a := r.a
    x := r.x
    y := r.y
    sp := r.sp
    pc := s.read16 Config.vecReset
    p := { c := r.c, z := r.z, i := true, d := r.d, v := r.v, n := r.n }
    nmiPending := false
    iForPoll := true
    stopped := false
    resetCount := s.resetCount + 1
    steps := s.steps + 1
    cycles := s.cycles + entryCycles }

/-- A reset step: the values are the free ones of this reset (R41, R370; log 4). -/
def State.resetStep (s : State) : State := s.takeReset (Config.resetValues s.resetCount)

/-! ### Fetching (R69, R80) -/

/-- The instruction at PC: the opcode byte and the two bytes after it, read as data is (R69, R80). -/
def State.fetch (s : State) : Instr := decodeOpcode (s.read s.pc) (s.read (s.pc + 1)) (s.read (s.pc + 2))

end Sys2Proof.Machine
end

