-- ==== Sys2Proof/Machine/Operands.lean ====
section
/-! DEFINITION. The addressing modes (`spec/30_encoding.md` R82 to R96): effective address, base and page crossing,
operand byte, branch target. Everything is computed from the state before the instruction. -/

namespace Sys2Proof

open Machine

/-- `ea`, the effective address, "Address of the opcode's operand" (R82). -/
def MemOperand.ea (o : MemOperand) (s : State) : Addr :=
  match o with
  | .imm _ => s.pc + 1                          -- R85
  | .zp b => zext16 b                           -- R86
  | .zpX b => zext16 (b + s.x)                  -- R91
  | .zpY b => zext16 (b + s.y)                  -- R92
  | .abs a => a                                 -- R88
  | .absX a => a + zext16 s.x                   -- R93
  | .absY a => a + zext16 s.y                   -- R94
  | .indX b => s.readZP16 (b + s.x)             -- R95
  | .indY b => s.readZP16 b + zext16 s.y        -- R96

/-- `base`: in the modes a,X a,Y and (d),Y the 16-bit address before the index is added (R82, R93, R94, R96); in the
other modes, which have no base, the effective address. -/
def MemOperand.base (o : MemOperand) (s : State) : Addr :=
  match o with
  | .imm _ => o.ea s
  | .zp _ => o.ea s
  | .zpX _ => o.ea s
  | .zpY _ => o.ea s
  | .abs _ => o.ea s
  | .absX a => a
  | .absY a => a
  | .indX _ => o.ea s
  | .indY b => s.readZP16 b

/-- `crossed`: the indexed address is on a different page (R82). -/
def MemOperand.crossed (o : MemOperand) (s : State) : Bool := hi (o.base s) != hi (o.ea s)

/-- `M`, the operand byte: in immediate mode the second byte of the instruction, `M = b1` (R85), else the byte at the
effective address (R82, R89). -/
def MemOperand.value (o : MemOperand) (s : State) : Byte :=
  match o with
  | .imm b => b
  | .zp _ => s.read (o.ea s)
  | .zpX _ => s.read (o.ea s)
  | .zpY _ => s.read (o.ea s)
  | .abs _ => s.read (o.ea s)
  | .absX _ => s.read (o.ea s)
  | .absY _ => s.read (o.ea s)
  | .indX _ => s.read (o.ea s)
  | .indY _ => s.read (o.ea s)

/-- The length of an instruction with the operand (R81). -/
def MemOperand.length (o : MemOperand) : Nat := 1 + o.mode.operandBytes

/-- The target of a relative branch: `PC0 +_16 2 +_16 sext_8(b1)` (R87). -/
def Machine.branchTarget (b : Byte) (s : State) : Addr := s.pc + 2 + sext16 b

end Sys2Proof
end

