-- ==== Sys2Proof/Machine/Flags.lean ====
section
/-! DEFINITION. The flag computations and the byte operations that produce flags: `SetZN` (`spec/00_scope.md` R8), the
compares (R166), the shifts and rotates (R190 to R193), binary and decimal addition and subtraction (R164, R165,
R171), the branch conditions (R221 to R228). -/

namespace Sys2Proof.Machine

/-- `SetZN(v)` (R8). -/
def State.setZN (s : State) (v : Byte) : State := s.setP { s.p with z := v == 0, n := v.msb }

/-- `C <- b`. -/
def State.setC (s : State) (b : Bool) : State := s.setP { s.p with c := b }

/-- `V <- b`. -/
def State.setV (s : State) (b : Bool) : State := s.setP { s.p with v := b }

/-- `D <- b`. -/
def State.setD (s : State) (b : Bool) : State := s.setP { s.p with d := b }

/-- The flags of a compare of a register with a byte: C, Z, N (R166 to R168, and R281, R286). -/
def State.setCompare (s : State) (r m : Byte) : State :=
  s.setP { s.p with c := decide (m.toNat ≤ r.toNat), z := r == m, n := (r - m).msb }

/-! ### Shifts and rotates: the result and the new C, from the operand and the old C -/

/-- A bit as a byte. -/
def bitByte (b : Bool) : Byte := if b then 1 else 0

/-- ASL (R190). -/
def aslByte (v : Byte) (_ : Bool) : Byte × Bool := (v <<< 1, v.getLsbD 7)

/-- LSR (R191). -/
def lsrByte (v : Byte) (_ : Bool) : Byte × Bool := (v >>> 1, v.getLsbD 0)

/-- ROL (R192). -/
def rolByte (v : Byte) (c : Bool) : Byte × Bool := ((v <<< 1) ||| bitByte c, v.getLsbD 7)

/-- ROR (R193). -/
def rorByte (v : Byte) (c : Bool) : Byte × Bool := ((v >>> 1) ||| (bitByte c <<< 7), v.getLsbD 0)

/-! ### Addition and subtraction: the new A and the flags C, Z, V, N -/

/-- What ADC and SBC leave: A and the four flags they write. -/
structure Sum where
  a : Byte
  c : Bool
  z : Bool
  v : Bool
  n : Bool
  deriving DecidableEq, Repr

/-- Binary ADC (R164). -/
def adcBinary (a m : Byte) (c : Bool) : Sum :=
  let t := a.toNat + m.toNat + c.toNat
  let r := BitVec.ofNat 8 t
  { a := r
    c := decide (255 < t)
    z := r == 0
    v := ((a ^^^ r) &&& (m ^^^ r)).msb
    n := r.msb }

/-- Binary SBC (R165). -/
def sbcBinary (a m : Byte) (c : Bool) : Sum :=
  let t : Int := (a.toNat : Int) - m.toNat - (1 - c.toNat)
  let r := BitVec.ofInt 8 t
  { a := r
    c := decide (0 ≤ t)
    z := r == 0
    v := ((a ^^^ m) &&& (a ^^^ r)).msb
    n := r.msb }

/-- Decimal ADC of NMOS silicon (R171): C is the decimal carry, Z that of the binary sum, N and V those of the
half-adjusted sum. -/
def adcDecimal (a m : Byte) (c : Bool) : Sum :=
  let bz := BitVec.ofNat 8 (a.toNat + m.toNat + c.toNat)
  let al := a.toNat % 16 + m.toNat % 16 + c.toNat
  let al := if 0x0A ≤ al then (al + 0x06) % 16 + 0x10 else al
  let t := (a &&& 0xF0).toNat + (m &&& 0xF0).toNat + al
  let tb := BitVec.ofNat 8 t
  let u := if 0xA0 ≤ t then t + 0x60 else t
  { a := BitVec.ofNat 8 u
    c := decide (0x100 ≤ u)
    z := bz == 0
    v := ((a ^^^ tb) &&& (m ^^^ tb)).msb
    n := tb.msb }

/-- Decimal SBC of NMOS silicon (R171): the flags are those of the binary subtraction, only A differs. -/
def sbcDecimal (a m : Byte) (c : Bool) : Sum :=
  let al : Int := ((a.toNat % 16 : Nat) : Int) - ((m.toNat % 16 : Nat) : Int) - (1 - c.toNat)
  let al := if al < 0 then (al - 0x06) % 16 - 0x10 else al
  let t : Int := ((a &&& 0xF0).toNat : Int) - (m &&& 0xF0).toNat + al
  let t := if t < 0 then t - 0x60 else t
  { sbcBinary a m c with a := BitVec.ofInt 8 t }

/-- A and the flags C, Z, V, N written from a sum. -/
def State.setSum (s : State) (r : Sum) : State :=
  (s.setA r.a).setP { s.p with c := r.c, z := r.z, v := r.v, n := r.n }

/-- What ADC leaves, by `DECIMAL_MODE` and the flag D (R164, R171). Nothing where the mode refuses. -/
def adcSum (mode : DecimalMode) (d : Bool) (a m : Byte) (c : Bool) : Option Sum :=
  match d, mode with
  | false, _ => some (adcBinary a m c)
  | true, .binary => some (adcBinary a m c)
  | true, .nmosBcd => some (adcDecimal a m c)
  | true, .refuse => none

/-- What SBC leaves, by `DECIMAL_MODE` and the flag D (R165, R171). Nothing where the mode refuses. -/
def sbcSum (mode : DecimalMode) (d : Bool) (a m : Byte) (c : Bool) : Option Sum :=
  match d, mode with
  | false, _ => some (sbcBinary a m c)
  | true, .binary => some (sbcBinary a m c)
  | true, .nmosBcd => some (sbcDecimal a m c)
  | true, .refuse => none

/-- The sum written, or the refusal of `DECIMAL_MODE = refuse` (R171). -/
def State.writeSum (s : State) (r : Option Sum) : Result :=
  match r with
  | some r => .next (s.setSum r)
  | none => .refused .decimalModeRefused

/-- ADC of a byte (R164, R171). -/
def adc (m : Byte) (s : State) : Result := s.writeSum (adcSum s.params.decimalMode s.p.d s.a m s.p.c)

/-- SBC of a byte (R165, R171). -/
def sbc (m : Byte) (s : State) : Result := s.writeSum (sbcSum s.params.decimalMode s.p.d s.a m s.p.c)

/-- PC past the instruction, when the rest of it has an effect (R27). -/
def advanceResult (len : Nat) : Result → Result
  | .next s => .next (s.advance len)
  | .fault f => .fault f
  | .refused r => .refused r

/-! ### The branch conditions (R221 to R228) -/

/-- Whether the branch of the mnemonic is taken. The other mnemonics are no branches. -/
def branchTaken (m : Mnemonic) (p : Flags) : Bool :=
  match m with
  | .BCC => !p.c
  | .BCS => p.c
  | .BEQ => p.z
  | .BMI => p.n
  | .BNE => !p.z
  | .BPL => !p.n
  | .BVC => !p.v
  | .BVS => p.v
  | _ => false

end Sys2Proof.Machine
end

