-- ==== Sys2Proof/Machine/BranchJump.lean ====
section
/-! DEFINITION. Control transfer instructions (`spec/44_branch_jump.md` R220 to R231). -/

namespace Sys2Proof.Machine

/-- The common rule of the eight branches (R220). -/
def opBranch (m : Mnemonic) (b : Byte) (s : State) : Result :=
  .next (s.setPc (if branchTaken m s.p then branchTarget b s else s.pc + 2))

/-- $90 `BCC *+d` (R221). -/
def execBcc (b : Byte) (s : State) : Result := opBranch .BCC b s

/-- $B0 `BCS *+d` (R222). -/
def execBcs (b : Byte) (s : State) : Result := opBranch .BCS b s

/-- $F0 `BEQ *+d` (R223). -/
def execBeq (b : Byte) (s : State) : Result := opBranch .BEQ b s

/-- $30 `BMI *+d` (R224). -/
def execBmi (b : Byte) (s : State) : Result := opBranch .BMI b s

/-- $D0 `BNE *+d` (R225). -/
def execBne (b : Byte) (s : State) : Result := opBranch .BNE b s

/-- $10 `BPL *+d` (R226). -/
def execBpl (b : Byte) (s : State) : Result := opBranch .BPL b s

/-- $50 `BVC *+d` (R227). -/
def execBvc (b : Byte) (s : State) : Result := opBranch .BVC b s

/-- $70 `BVS *+d` (R228). -/
def execBvs (b : Byte) (s : State) : Result := opBranch .BVS b s

/-- $4C `JMP a` (R229). -/
def execJmpAbs (a : Addr) (s : State) : Result := .next (s.setPc a)

/-- $6C `JMP (a)` (R229). -/
def execJmpInd (a : Addr) (s : State) : Result := .next (s.setPc (s.readInd16 a))

/-- $20 `JSR a` (R230). -/
def execJsrAbs (a : Addr) (s : State) : Result := .next ((s.push16 (s.pc + 2)).setPc a)

/-- $60 `RTS` (R231). -/
def execRts (s : State) : Result := .next (s.drop16.setPc (s.top16 + 1))

end Sys2Proof.Machine
end

