-- ==== Sys2Proof/Machine/FlagsSystem.lean ====
section
/-! DEFINITION. Flag instructions, NOP, BRK and RTI (`spec/45_flags_system.md` R250 to R257, R260, R261). -/

namespace Sys2Proof.Machine

/-- $18 `CLC` (R250). -/
def execClc (s : State) : Result := .next ((s.setC false).advance 1)

/-- $D8 `CLD` (R251). -/
def execCld (s : State) : Result := .next ((s.setD false).advance 1)

/-- $58 `CLI` (R252). -/
def execCli (s : State) : Result := .next ((s.setI false).advance 1)

/-- $B8 `CLV` (R253). -/
def execClv (s : State) : Result := .next ((s.setV false).advance 1)

/-- $38 `SEC` (R254). -/
def execSec (s : State) : Result := .next ((s.setC true).advance 1)

/-- $F8 `SED` (R255). -/
def execSed (s : State) : Result := .next ((s.setD true).advance 1)

/-- $78 `SEI` (R256). -/
def execSei (s : State) : Result := .next ((s.setI true).advance 1)

/-- $EA `NOP` (R257). -/
def execNop (s : State) : Result := .next (s.advance 1)

/-- $00 `BRK` (R260). -/
def execBrk (s : State) : Result := .next (s.enter (s.pc + 2) true Config.vecIrq)

/-- $40 `RTI` (R261). -/
def execRti (s : State) : Result := .next s.returnFromInterrupt

end Sys2Proof.Machine
end

