-- ==== Sys2Proof/Machine/LoadStore.lean ====
section
/-! DEFINITION. Load and store instructions (`spec/40_load_store.md` R120 to R125). -/

namespace Sys2Proof.Machine

/-- LDA: `A <- M; SetZN(A)` (R120). -/
def opLda (o : MemOperand) (s : State) : Result :=
  .next (((s.setA (o.value s)).setZN (o.value s)).advance o.length)

/-- LDX: `X <- M; SetZN(X)` (R121). -/
def opLdx (o : MemOperand) (s : State) : Result :=
  .next (((s.setX (o.value s)).setZN (o.value s)).advance o.length)

/-- LDY: `Y <- M; SetZN(Y)` (R122). -/
def opLdy (o : MemOperand) (s : State) : Result :=
  .next (((s.setY (o.value s)).setZN (o.value s)).advance o.length)

/-- A byte stored at the effective address, and nothing else (R89). -/
def opStore (v : Byte) (o : MemOperand) (s : State) : Result :=
  .next ((s.write (o.ea s) v).advance o.length)

/-- STA (R123). -/
def opSta (o : MemOperand) (s : State) : Result := opStore s.a o s

/-- STX (R124). -/
def opStx (o : MemOperand) (s : State) : Result := opStore s.x o s

/-- STY (R125). -/
def opSty (o : MemOperand) (s : State) : Result := opStore s.y o s

/-- $A1 `LDA (d,X)` (R120). -/
def execLdaIndX (b : Byte) (s : State) : Result := opLda (.indX b) s

/-- $A5 `LDA d` (R120). -/
def execLdaZp (b : Byte) (s : State) : Result := opLda (.zp b) s

/-- $A9 `LDA #i` (R120). -/
def execLdaImm (b : Byte) (s : State) : Result := opLda (.imm b) s

/-- $AD `LDA a` (R120). -/
def execLdaAbs (a : Addr) (s : State) : Result := opLda (.abs a) s

/-- $B1 `LDA (d),Y` (R120). -/
def execLdaIndY (b : Byte) (s : State) : Result := opLda (.indY b) s

/-- $B5 `LDA d,X` (R120). -/
def execLdaZpX (b : Byte) (s : State) : Result := opLda (.zpX b) s

/-- $B9 `LDA a,Y` (R120). -/
def execLdaAbsY (a : Addr) (s : State) : Result := opLda (.absY a) s

/-- $BD `LDA a,X` (R120). -/
def execLdaAbsX (a : Addr) (s : State) : Result := opLda (.absX a) s

/-- $A2 `LDX #i` (R121). -/
def execLdxImm (b : Byte) (s : State) : Result := opLdx (.imm b) s

/-- $A6 `LDX d` (R121). -/
def execLdxZp (b : Byte) (s : State) : Result := opLdx (.zp b) s

/-- $AE `LDX a` (R121). -/
def execLdxAbs (a : Addr) (s : State) : Result := opLdx (.abs a) s

/-- $B6 `LDX d,Y` (R121). -/
def execLdxZpY (b : Byte) (s : State) : Result := opLdx (.zpY b) s

/-- $BE `LDX a,Y` (R121). -/
def execLdxAbsY (a : Addr) (s : State) : Result := opLdx (.absY a) s

/-- $A0 `LDY #i` (R122). -/
def execLdyImm (b : Byte) (s : State) : Result := opLdy (.imm b) s

/-- $A4 `LDY d` (R122). -/
def execLdyZp (b : Byte) (s : State) : Result := opLdy (.zp b) s

/-- $AC `LDY a` (R122). -/
def execLdyAbs (a : Addr) (s : State) : Result := opLdy (.abs a) s

/-- $B4 `LDY d,X` (R122). -/
def execLdyZpX (b : Byte) (s : State) : Result := opLdy (.zpX b) s

/-- $BC `LDY a,X` (R122). -/
def execLdyAbsX (a : Addr) (s : State) : Result := opLdy (.absX a) s

/-- $81 `STA (d,X)` (R123). -/
def execStaIndX (b : Byte) (s : State) : Result := opSta (.indX b) s

/-- $85 `STA d` (R123). -/
def execStaZp (b : Byte) (s : State) : Result := opSta (.zp b) s

/-- $8D `STA a` (R123). -/
def execStaAbs (a : Addr) (s : State) : Result := opSta (.abs a) s

/-- $91 `STA (d),Y` (R123). -/
def execStaIndY (b : Byte) (s : State) : Result := opSta (.indY b) s

/-- $95 `STA d,X` (R123). -/
def execStaZpX (b : Byte) (s : State) : Result := opSta (.zpX b) s

/-- $99 `STA a,Y` (R123). -/
def execStaAbsY (a : Addr) (s : State) : Result := opSta (.absY a) s

/-- $9D `STA a,X` (R123). -/
def execStaAbsX (a : Addr) (s : State) : Result := opSta (.absX a) s

/-- $86 `STX d` (R124). -/
def execStxZp (b : Byte) (s : State) : Result := opStx (.zp b) s

/-- $8E `STX a` (R124). -/
def execStxAbs (a : Addr) (s : State) : Result := opStx (.abs a) s

/-- $96 `STX d,Y` (R124). -/
def execStxZpY (b : Byte) (s : State) : Result := opStx (.zpY b) s

/-- $84 `STY d` (R125). -/
def execStyZp (b : Byte) (s : State) : Result := opSty (.zp b) s

/-- $8C `STY a` (R125). -/
def execStyAbs (a : Addr) (s : State) : Result := opSty (.abs a) s

/-- $94 `STY d,X` (R125). -/
def execStyZpX (b : Byte) (s : State) : Result := opSty (.zpX b) s

end Sys2Proof.Machine
end

