-- ==== Sys2Proof/Machine/LogicArith.lean ====
section
/-! DEFINITION. Logic, arithmetic and compare instructions (`spec/42_logic_arith.md` R160 to R171). -/

namespace Sys2Proof.Machine

/-- A new A, with Z and N from it, and PC past the instruction. -/
def writeA (v : Byte) (len : Nat) (s : State) : Result := .next (((s.setA v).setZN v).advance len)

/-- AND (R160). -/
def opAnd (o : MemOperand) (s : State) : Result := writeA (s.a &&& o.value s) o.length s

/-- ORA (R161). -/
def opOra (o : MemOperand) (s : State) : Result := writeA (s.a ||| o.value s) o.length s

/-- EOR (R162). -/
def opEor (o : MemOperand) (s : State) : Result := writeA (s.a ^^^ o.value s) o.length s

/-- BIT: Z from `A AND M`, V and N from bits 6 and 7 of M (R163). -/
def opBit (o : MemOperand) (s : State) : Result :=
  let m := o.value s
  .next ((s.setP { s.p with z := s.a &&& m == 0, v := m.getLsbD 6, n := m.getLsbD 7 }).advance o.length)

/-- ADC (R164, R171). -/
def opAdc (o : MemOperand) (s : State) : Result := advanceResult o.length (adc (o.value s) s)

/-- SBC (R165, R171). -/
def opSbc (o : MemOperand) (s : State) : Result := advanceResult o.length (sbc (o.value s) s)

/-- CMP (R166). -/
def opCmp (o : MemOperand) (s : State) : Result := .next ((s.setCompare s.a (o.value s)).advance o.length)

/-- CPX (R167). -/
def opCpx (o : MemOperand) (s : State) : Result := .next ((s.setCompare s.x (o.value s)).advance o.length)

/-- CPY (R168). -/
def opCpy (o : MemOperand) (s : State) : Result := .next ((s.setCompare s.y (o.value s)).advance o.length)

/-- $21 `AND (d,X)` (R160). -/
def execAndIndX (b : Byte) (s : State) : Result := opAnd (.indX b) s

/-- $25 `AND d` (R160). -/
def execAndZp (b : Byte) (s : State) : Result := opAnd (.zp b) s

/-- $29 `AND #i` (R160). -/
def execAndImm (b : Byte) (s : State) : Result := opAnd (.imm b) s

/-- $2D `AND a` (R160). -/
def execAndAbs (a : Addr) (s : State) : Result := opAnd (.abs a) s

/-- $31 `AND (d),Y` (R160). -/
def execAndIndY (b : Byte) (s : State) : Result := opAnd (.indY b) s

/-- $35 `AND d,X` (R160). -/
def execAndZpX (b : Byte) (s : State) : Result := opAnd (.zpX b) s

/-- $39 `AND a,Y` (R160). -/
def execAndAbsY (a : Addr) (s : State) : Result := opAnd (.absY a) s

/-- $3D `AND a,X` (R160). -/
def execAndAbsX (a : Addr) (s : State) : Result := opAnd (.absX a) s

/-- $01 `ORA (d,X)` (R161). -/
def execOraIndX (b : Byte) (s : State) : Result := opOra (.indX b) s

/-- $05 `ORA d` (R161). -/
def execOraZp (b : Byte) (s : State) : Result := opOra (.zp b) s

/-- $09 `ORA #i` (R161). -/
def execOraImm (b : Byte) (s : State) : Result := opOra (.imm b) s

/-- $0D `ORA a` (R161). -/
def execOraAbs (a : Addr) (s : State) : Result := opOra (.abs a) s

/-- $11 `ORA (d),Y` (R161). -/
def execOraIndY (b : Byte) (s : State) : Result := opOra (.indY b) s

/-- $15 `ORA d,X` (R161). -/
def execOraZpX (b : Byte) (s : State) : Result := opOra (.zpX b) s

/-- $19 `ORA a,Y` (R161). -/
def execOraAbsY (a : Addr) (s : State) : Result := opOra (.absY a) s

/-- $1D `ORA a,X` (R161). -/
def execOraAbsX (a : Addr) (s : State) : Result := opOra (.absX a) s

/-- $41 `EOR (d,X)` (R162). -/
def execEorIndX (b : Byte) (s : State) : Result := opEor (.indX b) s

/-- $45 `EOR d` (R162). -/
def execEorZp (b : Byte) (s : State) : Result := opEor (.zp b) s

/-- $49 `EOR #i` (R162). -/
def execEorImm (b : Byte) (s : State) : Result := opEor (.imm b) s

/-- $4D `EOR a` (R162). -/
def execEorAbs (a : Addr) (s : State) : Result := opEor (.abs a) s

/-- $51 `EOR (d),Y` (R162). -/
def execEorIndY (b : Byte) (s : State) : Result := opEor (.indY b) s

/-- $55 `EOR d,X` (R162). -/
def execEorZpX (b : Byte) (s : State) : Result := opEor (.zpX b) s

/-- $59 `EOR a,Y` (R162). -/
def execEorAbsY (a : Addr) (s : State) : Result := opEor (.absY a) s

/-- $5D `EOR a,X` (R162). -/
def execEorAbsX (a : Addr) (s : State) : Result := opEor (.absX a) s

/-- $24 `BIT d` (R163). -/
def execBitZp (b : Byte) (s : State) : Result := opBit (.zp b) s

/-- $2C `BIT a` (R163). -/
def execBitAbs (a : Addr) (s : State) : Result := opBit (.abs a) s

/-- $61 `ADC (d,X)` (R164). -/
def execAdcIndX (b : Byte) (s : State) : Result := opAdc (.indX b) s

/-- $65 `ADC d` (R164). -/
def execAdcZp (b : Byte) (s : State) : Result := opAdc (.zp b) s

/-- $69 `ADC #i` (R164). -/
def execAdcImm (b : Byte) (s : State) : Result := opAdc (.imm b) s

/-- $6D `ADC a` (R164). -/
def execAdcAbs (a : Addr) (s : State) : Result := opAdc (.abs a) s

/-- $71 `ADC (d),Y` (R164). -/
def execAdcIndY (b : Byte) (s : State) : Result := opAdc (.indY b) s

/-- $75 `ADC d,X` (R164). -/
def execAdcZpX (b : Byte) (s : State) : Result := opAdc (.zpX b) s

/-- $79 `ADC a,Y` (R164). -/
def execAdcAbsY (a : Addr) (s : State) : Result := opAdc (.absY a) s

/-- $7D `ADC a,X` (R164). -/
def execAdcAbsX (a : Addr) (s : State) : Result := opAdc (.absX a) s

/-- $E1 `SBC (d,X)` (R165). -/
def execSbcIndX (b : Byte) (s : State) : Result := opSbc (.indX b) s

/-- $E5 `SBC d` (R165). -/
def execSbcZp (b : Byte) (s : State) : Result := opSbc (.zp b) s

/-- $E9 `SBC #i` (R165). -/
def execSbcImm (b : Byte) (s : State) : Result := opSbc (.imm b) s

/-- $ED `SBC a` (R165). -/
def execSbcAbs (a : Addr) (s : State) : Result := opSbc (.abs a) s

/-- $F1 `SBC (d),Y` (R165). -/
def execSbcIndY (b : Byte) (s : State) : Result := opSbc (.indY b) s

/-- $F5 `SBC d,X` (R165). -/
def execSbcZpX (b : Byte) (s : State) : Result := opSbc (.zpX b) s

/-- $F9 `SBC a,Y` (R165). -/
def execSbcAbsY (a : Addr) (s : State) : Result := opSbc (.absY a) s

/-- $FD `SBC a,X` (R165). -/
def execSbcAbsX (a : Addr) (s : State) : Result := opSbc (.absX a) s

/-- $C1 `CMP (d,X)` (R166). -/
def execCmpIndX (b : Byte) (s : State) : Result := opCmp (.indX b) s

/-- $C5 `CMP d` (R166). -/
def execCmpZp (b : Byte) (s : State) : Result := opCmp (.zp b) s

/-- $C9 `CMP #i` (R166). -/
def execCmpImm (b : Byte) (s : State) : Result := opCmp (.imm b) s

/-- $CD `CMP a` (R166). -/
def execCmpAbs (a : Addr) (s : State) : Result := opCmp (.abs a) s

/-- $D1 `CMP (d),Y` (R166). -/
def execCmpIndY (b : Byte) (s : State) : Result := opCmp (.indY b) s

/-- $D5 `CMP d,X` (R166). -/
def execCmpZpX (b : Byte) (s : State) : Result := opCmp (.zpX b) s

/-- $D9 `CMP a,Y` (R166). -/
def execCmpAbsY (a : Addr) (s : State) : Result := opCmp (.absY a) s

/-- $DD `CMP a,X` (R166). -/
def execCmpAbsX (a : Addr) (s : State) : Result := opCmp (.absX a) s

/-- $E0 `CPX #i` (R167). -/
def execCpxImm (b : Byte) (s : State) : Result := opCpx (.imm b) s

/-- $E4 `CPX d` (R167). -/
def execCpxZp (b : Byte) (s : State) : Result := opCpx (.zp b) s

/-- $EC `CPX a` (R167). -/
def execCpxAbs (a : Addr) (s : State) : Result := opCpx (.abs a) s

/-- $C0 `CPY #i` (R168). -/
def execCpyImm (b : Byte) (s : State) : Result := opCpy (.imm b) s

/-- $C4 `CPY d` (R168). -/
def execCpyZp (b : Byte) (s : State) : Result := opCpy (.zp b) s

/-- $CC `CPY a` (R168). -/
def execCpyAbs (a : Addr) (s : State) : Result := opCpy (.abs a) s

end Sys2Proof.Machine
end

