-- ==== Sys2Proof/Machine/ShiftIncDec.lean ====
section
/-! DEFINITION. Shift, rotate, increment and decrement instructions (`spec/43_shift_incdec.md` R189 to R199). -/

namespace Sys2Proof.Machine

/-- A shift or rotate of A (R84, R190 to R193). -/
def opShiftAcc (f : Byte → Bool → Byte × Bool) (s : State) : Result :=
  let r := f s.a s.p.c
  .next ((((s.setA r.1).setC r.2).setZN r.1).advance 1)

/-- A shift or rotate of a memory byte: read, compute, write to the same address (R189 to R193). -/
def opShiftMem (f : Byte → Bool → Byte × Bool) (o : MemOperand) (s : State) : Result :=
  let r := f (s.read (o.ea s)) s.p.c
  .next ((((s.write (o.ea s) r.1).setC r.2).setZN r.1).advance o.length)

/-- INC or DEC of a memory byte (R189, R194, R195). -/
def opStepMem (f : Byte → Byte) (o : MemOperand) (s : State) : Result :=
  let r := f (s.read (o.ea s))
  .next (((s.write (o.ea s) r).setZN r).advance o.length)

/-- $06 `ASL d` (R190). -/
def execAslZp (b : Byte) (s : State) : Result := opShiftMem aslByte (.zp b) s

/-- $0A `ASL A` (R190). -/
def execAslAcc (s : State) : Result := opShiftAcc aslByte s

/-- $0E `ASL a` (R190). -/
def execAslAbs (a : Addr) (s : State) : Result := opShiftMem aslByte (.abs a) s

/-- $16 `ASL d,X` (R190). -/
def execAslZpX (b : Byte) (s : State) : Result := opShiftMem aslByte (.zpX b) s

/-- $1E `ASL a,X` (R190). -/
def execAslAbsX (a : Addr) (s : State) : Result := opShiftMem aslByte (.absX a) s

/-- $46 `LSR d` (R191). -/
def execLsrZp (b : Byte) (s : State) : Result := opShiftMem lsrByte (.zp b) s

/-- $4A `LSR A` (R191). -/
def execLsrAcc (s : State) : Result := opShiftAcc lsrByte s

/-- $4E `LSR a` (R191). -/
def execLsrAbs (a : Addr) (s : State) : Result := opShiftMem lsrByte (.abs a) s

/-- $56 `LSR d,X` (R191). -/
def execLsrZpX (b : Byte) (s : State) : Result := opShiftMem lsrByte (.zpX b) s

/-- $5E `LSR a,X` (R191). -/
def execLsrAbsX (a : Addr) (s : State) : Result := opShiftMem lsrByte (.absX a) s

/-- $26 `ROL d` (R192). -/
def execRolZp (b : Byte) (s : State) : Result := opShiftMem rolByte (.zp b) s

/-- $2A `ROL A` (R192). -/
def execRolAcc (s : State) : Result := opShiftAcc rolByte s

/-- $2E `ROL a` (R192). -/
def execRolAbs (a : Addr) (s : State) : Result := opShiftMem rolByte (.abs a) s

/-- $36 `ROL d,X` (R192). -/
def execRolZpX (b : Byte) (s : State) : Result := opShiftMem rolByte (.zpX b) s

/-- $3E `ROL a,X` (R192). -/
def execRolAbsX (a : Addr) (s : State) : Result := opShiftMem rolByte (.absX a) s

/-- $66 `ROR d` (R193). -/
def execRorZp (b : Byte) (s : State) : Result := opShiftMem rorByte (.zp b) s

/-- $6A `ROR A` (R193). -/
def execRorAcc (s : State) : Result := opShiftAcc rorByte s

/-- $6E `ROR a` (R193). -/
def execRorAbs (a : Addr) (s : State) : Result := opShiftMem rorByte (.abs a) s

/-- $76 `ROR d,X` (R193). -/
def execRorZpX (b : Byte) (s : State) : Result := opShiftMem rorByte (.zpX b) s

/-- $7E `ROR a,X` (R193). -/
def execRorAbsX (a : Addr) (s : State) : Result := opShiftMem rorByte (.absX a) s

/-- $E6 `INC d` (R194). -/
def execIncZp (b : Byte) (s : State) : Result := opStepMem (· + 1) (.zp b) s

/-- $EE `INC a` (R194). -/
def execIncAbs (a : Addr) (s : State) : Result := opStepMem (· + 1) (.abs a) s

/-- $F6 `INC d,X` (R194). -/
def execIncZpX (b : Byte) (s : State) : Result := opStepMem (· + 1) (.zpX b) s

/-- $FE `INC a,X` (R194). -/
def execIncAbsX (a : Addr) (s : State) : Result := opStepMem (· + 1) (.absX a) s

/-- $C6 `DEC d` (R195). -/
def execDecZp (b : Byte) (s : State) : Result := opStepMem (· - 1) (.zp b) s

/-- $CE `DEC a` (R195). -/
def execDecAbs (a : Addr) (s : State) : Result := opStepMem (· - 1) (.abs a) s

/-- $D6 `DEC d,X` (R195). -/
def execDecZpX (b : Byte) (s : State) : Result := opStepMem (· - 1) (.zpX b) s

/-- $DE `DEC a,X` (R195). -/
def execDecAbsX (a : Addr) (s : State) : Result := opStepMem (· - 1) (.absX a) s

/-- $E8 `INX` (R196). -/
def execInx (s : State) : Result := .next (((s.setX (s.x + 1)).setZN (s.x + 1)).advance 1)

/-- $C8 `INY` (R197). -/
def execIny (s : State) : Result := .next (((s.setY (s.y + 1)).setZN (s.y + 1)).advance 1)

/-- $CA `DEX` (R198). -/
def execDex (s : State) : Result := .next (((s.setX (s.x - 1)).setZN (s.x - 1)).advance 1)

/-- $88 `DEY` (R199). -/
def execDey (s : State) : Result := .next (((s.setY (s.y - 1)).setZN (s.y - 1)).advance 1)

end Sys2Proof.Machine
end

