-- ==== Sys2Proof/Machine/TransferStack.lean ====
section
/-! DEFINITION. Register transfer and stack instructions (`spec/41_transfer_stack.md` R140 to R149). -/

namespace Sys2Proof.Machine

/-- $AA `TAX` (R140). -/
def execTax (s : State) : Result := .next (((s.setX s.a).setZN s.a).advance 1)

/-- $A8 `TAY` (R141). -/
def execTay (s : State) : Result := .next (((s.setY s.a).setZN s.a).advance 1)

/-- $BA `TSX` (R142). -/
def execTsx (s : State) : Result := .next (((s.setX s.sp).setZN s.sp).advance 1)

/-- $8A `TXA` (R143). -/
def execTxa (s : State) : Result := .next (((s.setA s.x).setZN s.x).advance 1)

/-- $9A `TXS` (R144). -/
def execTxs (s : State) : Result := .next ((s.setSp s.x).advance 1)

/-- $98 `TYA` (R145). -/
def execTya (s : State) : Result := .next (((s.setA s.y).setZN s.y).advance 1)

/-- $48 `PHA` (R146). -/
def execPha (s : State) : Result := .next ((s.push s.a).advance 1)

/-- $08 `PHP` (R147). -/
def execPhp (s : State) : Result := .next ((s.push (s.p.toByte true)).advance 1)

/-- $68 `PLA` (R148). -/
def execPla (s : State) : Result := .next (((s.drop.setA s.top).setZN s.top).advance 1)

/-- $28 `PLP` (R149). -/
def execPlp (s : State) : Result := .next ((s.drop.setP (Flags.ofByte s.top)).advance 1)

end Sys2Proof.Machine
end

