-- ==== Sys2Proof/Machine/Undocumented.lean ====
section
/-! DEFINITION. The 105 undocumented cells (`spec/46_undocumented.md` R270 to R293). Every meaning stands behind the
policy gate of R270, which the policy of the state opens or not. -/

namespace Sys2Proof.Machine

/-- `stopped <- 1`, PC is not moved (R271). -/
def State.stop (s : State) : State := { s with stopped := true }

/-- NOP with an operand: the operand byte is read and discarded, which no memory shows (R273, R64). -/
def opNopRead (o : MemOperand) (s : State) : Result := .next (s.advance o.length)

/-- A memory byte shifted, C from the shift, then A combined with the new byte, Z and N from A (R275 to R277). -/
def opShiftCombine (f : Byte → Bool → Byte × Bool) (g : Byte → Byte → Byte) (o : MemOperand) (s : State) : Result :=
  let r := f (s.read (o.ea s)) s.p.c
  writeA (g s.a r.1) o.length ((s.write (o.ea s) r.1).setC r.2)

/-- SLO: ASL on memory, then ORA (R275). -/
def opSlo (o : MemOperand) (s : State) : Result := opShiftCombine aslByte (· ||| ·) o s

/-- RLA: ROL on memory, then AND (R276). -/
def opRla (o : MemOperand) (s : State) : Result := opShiftCombine rolByte (· &&& ·) o s

/-- SRE: LSR on memory, then EOR (R277). -/
def opSre (o : MemOperand) (s : State) : Result := opShiftCombine lsrByte (· ^^^ ·) o s

/-- RRA: ROR on memory, then ADC of the new byte with the carry just set (R278). -/
def opRra (o : MemOperand) (s : State) : Result :=
  let r := rorByte (s.read (o.ea s)) s.p.c
  advanceResult o.length (adc r.1 ((s.write (o.ea s) r.1).setC r.2))

/-- DCP: DEC on memory, then CMP with the new byte (R281). -/
def opDcp (o : MemOperand) (s : State) : Result :=
  let r := s.read (o.ea s) - 1
  .next (((s.write (o.ea s) r).setCompare s.a r).advance o.length)

/-- ISC: INC on memory, then SBC of the new byte (R282). -/
def opIsc (o : MemOperand) (s : State) : Result :=
  let r := s.read (o.ea s) + 1
  advanceResult o.length (sbc r (s.write (o.ea s) r))

/-- SAX: store `A AND X` (R279). -/
def opSax (o : MemOperand) (s : State) : Result := opStore (s.a &&& s.x) o s

/-- A byte written to A and X, with Z and N from it. -/
def writeAX (v : Byte) (len : Nat) (s : State) : Result := .next ((((s.setA v).setX v).setZN v).advance len)

/-- LAX, every cell but $AB (R280). -/
def opLax (o : MemOperand) (s : State) : Result := writeAX (o.value s) o.length s

/-- ANC: AND, then N into C (R283). -/
def opAnc (b : Byte) (s : State) : Result := writeA (s.a &&& b) 2 (s.setC (s.a &&& b).msb)

/-- ALR: AND, then LSR A (R284). -/
def opAlr (b : Byte) (s : State) : Result :=
  let r := lsrByte (s.a &&& b) s.p.c
  writeA r.1 2 (s.setC r.2)

/-- The result of ARR: AND, then ROR (R285). -/
def arrByte (a b : Byte) (c : Bool) : Byte := ((a &&& b) >>> 1) ||| (bitByte c <<< 7)

/-- ARR with D = 0 or in binary mode: C is bit 6 of the result, V bit 6 XOR bit 5 (R285). -/
def arrBinary (b : Byte) (s : State) : State :=
  let r := arrByte s.a b s.p.c
  (s.setA r).setP { s.p with c := r.getLsbD 6, z := r == 0, v := r.getLsbD 6 ^^ r.getLsbD 5, n := r.msb }

/-- ARR, by the flag D and `DECIMAL_MODE`: with D = 1 "the spec refuses ARR" in the other modes (R285, U10; log 17). -/
def opArr (b : Byte) (s : State) : Result :=
  match s.p.d, s.params.decimalMode with
  | false, _ => .next ((arrBinary b s).advance 2)
  | true, .binary => .next ((arrBinary b s).advance 2)
  | true, .nmosBcd => .refused .arrDecimal
  | true, .refuse => .refused .decimalModeRefused

/-- AXS: `X <- (A AND X) - i`, with C, Z, N as a compare (R286). -/
def opAxs (b : Byte) (s : State) : Result :=
  .next (((s.setX ((s.a &&& s.x) - b)).setP
    { s.p with c := decide (b.toNat ≤ (s.a &&& s.x).toNat), z := (s.a &&& s.x) - b == 0,
               n := ((s.a &&& s.x) - b).msb }).advance 2)

/-- LAS: `M AND S` into A, X and S (R287). -/
def opLas (o : MemOperand) (s : State) : Result :=
  writeAX (o.value s &&& s.sp) o.length (s.setSp (o.value s &&& s.sp))

/-- XAA: `A <- (A OR MAGIC) AND X AND i` (R288). -/
def opXaa (b : Byte) (s : State) : Result := writeA ((s.a ||| s.params.magic) &&& s.x &&& b) 2 s

/-- LAX #i: `(A OR MAGIC) AND i` into A and X (R289). -/
def opLaxImm (b : Byte) (s : State) : Result := writeAX ((s.a ||| s.params.magic) &&& b) 2 s

/-- The byte that an unstable store writes: the register value AND the high byte of the base plus 1 (R290 to R293). -/
def unstableByte (v : Byte) (o : MemOperand) (s : State) : Byte := v &&& (hi (o.base s) + 1)

/-- An unstable store: refused when the index crosses a page (R290 to R293, U9; log 18). The state to write into may
have a new S already. -/
def opUnstableStore (v : Byte) (o : MemOperand) (s t : State) : Result :=
  if o.crossed s then .refused .unstableStoreCrossesPage
  else .next ((t.write (o.ea s) (unstableByte v o s)).advance o.length)

/-- AHX (R290). -/
def opAhx (o : MemOperand) (s : State) : Result := opUnstableStore (s.a &&& s.x) o s s

/-- TAS (R291). -/
def opTas (o : MemOperand) (s : State) : Result := opUnstableStore (s.a &&& s.x) o s (s.setSp (s.a &&& s.x))

/-- SHY (R292). -/
def opShy (o : MemOperand) (s : State) : Result := opUnstableStore s.y o s s

/-- SHX (R293). -/
def opShx (o : MemOperand) (s : State) : Result := opUnstableStore s.x o s s

/-- $02 `STP` (R271). -/
def execStp02 (s : State) : Result := undocumented s .halt (.next s.stop)

/-- $12 `STP` (R271). -/
def execStp12 (s : State) : Result := undocumented s .halt (.next s.stop)

/-- $22 `STP` (R271). -/
def execStp22 (s : State) : Result := undocumented s .halt (.next s.stop)

/-- $32 `STP` (R271). -/
def execStp32 (s : State) : Result := undocumented s .halt (.next s.stop)

/-- $42 `STP` (R271). -/
def execStp42 (s : State) : Result := undocumented s .halt (.next s.stop)

/-- $52 `STP` (R271). -/
def execStp52 (s : State) : Result := undocumented s .halt (.next s.stop)

/-- $62 `STP` (R271). -/
def execStp62 (s : State) : Result := undocumented s .halt (.next s.stop)

/-- $72 `STP` (R271). -/
def execStp72 (s : State) : Result := undocumented s .halt (.next s.stop)

/-- $92 `STP` (R271). -/
def execStp92 (s : State) : Result := undocumented s .halt (.next s.stop)

/-- $B2 `STP` (R271). -/
def execStpB2 (s : State) : Result := undocumented s .halt (.next s.stop)

/-- $D2 `STP` (R271). -/
def execStpD2 (s : State) : Result := undocumented s .halt (.next s.stop)

/-- $F2 `STP` (R271). -/
def execStpF2 (s : State) : Result := undocumented s .halt (.next s.stop)

/-- $1A `NOP` (R272). -/
def execNop1A (s : State) : Result := undocumented s .same (.next (s.advance 1))

/-- $3A `NOP` (R272). -/
def execNop3A (s : State) : Result := undocumented s .same (.next (s.advance 1))

/-- $5A `NOP` (R272). -/
def execNop5A (s : State) : Result := undocumented s .same (.next (s.advance 1))

/-- $7A `NOP` (R272). -/
def execNop7A (s : State) : Result := undocumented s .same (.next (s.advance 1))

/-- $DA `NOP` (R272). -/
def execNopDA (s : State) : Result := undocumented s .same (.next (s.advance 1))

/-- $FA `NOP` (R272). -/
def execNopFA (s : State) : Result := undocumented s .same (.next (s.advance 1))

/-- $04 `NOP d` (R273). -/
def execNopZp04 (b : Byte) (s : State) : Result := undocumented s .same (opNopRead (.zp b) s)

/-- $0C `NOP a` (R273). -/
def execNopAbs (a : Addr) (s : State) : Result := undocumented s .same (opNopRead (.abs a) s)

/-- $14 `NOP d,X` (R273). -/
def execNopZpX14 (b : Byte) (s : State) : Result := undocumented s .same (opNopRead (.zpX b) s)

/-- $1C `NOP a,X` (R273). -/
def execNopAbsX1C (a : Addr) (s : State) : Result := undocumented s .same (opNopRead (.absX a) s)

/-- $34 `NOP d,X` (R273). -/
def execNopZpX34 (b : Byte) (s : State) : Result := undocumented s .same (opNopRead (.zpX b) s)

/-- $3C `NOP a,X` (R273). -/
def execNopAbsX3C (a : Addr) (s : State) : Result := undocumented s .same (opNopRead (.absX a) s)

/-- $44 `NOP d` (R273). -/
def execNopZp44 (b : Byte) (s : State) : Result := undocumented s .same (opNopRead (.zp b) s)

/-- $54 `NOP d,X` (R273). -/
def execNopZpX54 (b : Byte) (s : State) : Result := undocumented s .same (opNopRead (.zpX b) s)

/-- $5C `NOP a,X` (R273). -/
def execNopAbsX5C (a : Addr) (s : State) : Result := undocumented s .same (opNopRead (.absX a) s)

/-- $64 `NOP d` (R273). -/
def execNopZp64 (b : Byte) (s : State) : Result := undocumented s .same (opNopRead (.zp b) s)

/-- $74 `NOP d,X` (R273). -/
def execNopZpX74 (b : Byte) (s : State) : Result := undocumented s .same (opNopRead (.zpX b) s)

/-- $7C `NOP a,X` (R273). -/
def execNopAbsX7C (a : Addr) (s : State) : Result := undocumented s .same (opNopRead (.absX a) s)

/-- $80 `NOP #i` (R273). -/
def execNopImm80 (b : Byte) (s : State) : Result := undocumented s .same (opNopRead (.imm b) s)

/-- $82 `NOP #i` (R273). -/
def execNopImm82 (b : Byte) (s : State) : Result := undocumented s .same (opNopRead (.imm b) s)

/-- $89 `NOP #i` (R273). -/
def execNopImm89 (b : Byte) (s : State) : Result := undocumented s .same (opNopRead (.imm b) s)

/-- $C2 `NOP #i` (R273). -/
def execNopImmC2 (b : Byte) (s : State) : Result := undocumented s .same (opNopRead (.imm b) s)

/-- $D4 `NOP d,X` (R273). -/
def execNopZpXD4 (b : Byte) (s : State) : Result := undocumented s .same (opNopRead (.zpX b) s)

/-- $DC `NOP a,X` (R273). -/
def execNopAbsXDC (a : Addr) (s : State) : Result := undocumented s .same (opNopRead (.absX a) s)

/-- $E2 `NOP #i` (R273). -/
def execNopImmE2 (b : Byte) (s : State) : Result := undocumented s .same (opNopRead (.imm b) s)

/-- $F4 `NOP d,X` (R273). -/
def execNopZpXF4 (b : Byte) (s : State) : Result := undocumented s .same (opNopRead (.zpX b) s)

/-- $FC `NOP a,X` (R273). -/
def execNopAbsXFC (a : Addr) (s : State) : Result := undocumented s .same (opNopRead (.absX a) s)

/-- $EB `SBC #i` (R274). -/
def execSbcImmEB (b : Byte) (s : State) : Result := undocumented s .same (opSbc (.imm b) s)

/-- $03 `SLO (d,X)` (R275). -/
def execSloIndX (b : Byte) (s : State) : Result := undocumented s .stable (opSlo (.indX b) s)

/-- $07 `SLO d` (R275). -/
def execSloZp (b : Byte) (s : State) : Result := undocumented s .stable (opSlo (.zp b) s)

/-- $0F `SLO a` (R275). -/
def execSloAbs (a : Addr) (s : State) : Result := undocumented s .stable (opSlo (.abs a) s)

/-- $13 `SLO (d),Y` (R275). -/
def execSloIndY (b : Byte) (s : State) : Result := undocumented s .stable (opSlo (.indY b) s)

/-- $17 `SLO d,X` (R275). -/
def execSloZpX (b : Byte) (s : State) : Result := undocumented s .stable (opSlo (.zpX b) s)

/-- $1B `SLO a,Y` (R275). -/
def execSloAbsY (a : Addr) (s : State) : Result := undocumented s .stable (opSlo (.absY a) s)

/-- $1F `SLO a,X` (R275). -/
def execSloAbsX (a : Addr) (s : State) : Result := undocumented s .stable (opSlo (.absX a) s)

/-- $23 `RLA (d,X)` (R276). -/
def execRlaIndX (b : Byte) (s : State) : Result := undocumented s .stable (opRla (.indX b) s)

/-- $27 `RLA d` (R276). -/
def execRlaZp (b : Byte) (s : State) : Result := undocumented s .stable (opRla (.zp b) s)

/-- $2F `RLA a` (R276). -/
def execRlaAbs (a : Addr) (s : State) : Result := undocumented s .stable (opRla (.abs a) s)

/-- $33 `RLA (d),Y` (R276). -/
def execRlaIndY (b : Byte) (s : State) : Result := undocumented s .stable (opRla (.indY b) s)

/-- $37 `RLA d,X` (R276). -/
def execRlaZpX (b : Byte) (s : State) : Result := undocumented s .stable (opRla (.zpX b) s)

/-- $3B `RLA a,Y` (R276). -/
def execRlaAbsY (a : Addr) (s : State) : Result := undocumented s .stable (opRla (.absY a) s)

/-- $3F `RLA a,X` (R276). -/
def execRlaAbsX (a : Addr) (s : State) : Result := undocumented s .stable (opRla (.absX a) s)

/-- $43 `SRE (d,X)` (R277). -/
def execSreIndX (b : Byte) (s : State) : Result := undocumented s .stable (opSre (.indX b) s)

/-- $47 `SRE d` (R277). -/
def execSreZp (b : Byte) (s : State) : Result := undocumented s .stable (opSre (.zp b) s)

/-- $4F `SRE a` (R277). -/
def execSreAbs (a : Addr) (s : State) : Result := undocumented s .stable (opSre (.abs a) s)

/-- $53 `SRE (d),Y` (R277). -/
def execSreIndY (b : Byte) (s : State) : Result := undocumented s .stable (opSre (.indY b) s)

/-- $57 `SRE d,X` (R277). -/
def execSreZpX (b : Byte) (s : State) : Result := undocumented s .stable (opSre (.zpX b) s)

/-- $5B `SRE a,Y` (R277). -/
def execSreAbsY (a : Addr) (s : State) : Result := undocumented s .stable (opSre (.absY a) s)

/-- $5F `SRE a,X` (R277). -/
def execSreAbsX (a : Addr) (s : State) : Result := undocumented s .stable (opSre (.absX a) s)

/-- $63 `RRA (d,X)` (R278). -/
def execRraIndX (b : Byte) (s : State) : Result := undocumented s .stable (opRra (.indX b) s)

/-- $67 `RRA d` (R278). -/
def execRraZp (b : Byte) (s : State) : Result := undocumented s .stable (opRra (.zp b) s)

/-- $6F `RRA a` (R278). -/
def execRraAbs (a : Addr) (s : State) : Result := undocumented s .stable (opRra (.abs a) s)

/-- $73 `RRA (d),Y` (R278). -/
def execRraIndY (b : Byte) (s : State) : Result := undocumented s .stable (opRra (.indY b) s)

/-- $77 `RRA d,X` (R278). -/
def execRraZpX (b : Byte) (s : State) : Result := undocumented s .stable (opRra (.zpX b) s)

/-- $7B `RRA a,Y` (R278). -/
def execRraAbsY (a : Addr) (s : State) : Result := undocumented s .stable (opRra (.absY a) s)

/-- $7F `RRA a,X` (R278). -/
def execRraAbsX (a : Addr) (s : State) : Result := undocumented s .stable (opRra (.absX a) s)

/-- $83 `SAX (d,X)` (R279). -/
def execSaxIndX (b : Byte) (s : State) : Result := undocumented s .stable (opSax (.indX b) s)

/-- $87 `SAX d` (R279). -/
def execSaxZp (b : Byte) (s : State) : Result := undocumented s .stable (opSax (.zp b) s)

/-- $8F `SAX a` (R279). -/
def execSaxAbs (a : Addr) (s : State) : Result := undocumented s .stable (opSax (.abs a) s)

/-- $97 `SAX d,Y` (R279). -/
def execSaxZpY (b : Byte) (s : State) : Result := undocumented s .stable (opSax (.zpY b) s)

/-- $A3 `LAX (d,X)` (R280). -/
def execLaxIndX (b : Byte) (s : State) : Result := undocumented s .stable (opLax (.indX b) s)

/-- $A7 `LAX d` (R280). -/
def execLaxZp (b : Byte) (s : State) : Result := undocumented s .stable (opLax (.zp b) s)

/-- $AF `LAX a` (R280). -/
def execLaxAbs (a : Addr) (s : State) : Result := undocumented s .stable (opLax (.abs a) s)

/-- $B3 `LAX (d),Y` (R280). -/
def execLaxIndY (b : Byte) (s : State) : Result := undocumented s .stable (opLax (.indY b) s)

/-- $B7 `LAX d,Y` (R280). -/
def execLaxZpY (b : Byte) (s : State) : Result := undocumented s .stable (opLax (.zpY b) s)

/-- $BF `LAX a,Y` (R280). -/
def execLaxAbsY (a : Addr) (s : State) : Result := undocumented s .stable (opLax (.absY a) s)

/-- $C3 `DCP (d,X)` (R281). -/
def execDcpIndX (b : Byte) (s : State) : Result := undocumented s .stable (opDcp (.indX b) s)

/-- $C7 `DCP d` (R281). -/
def execDcpZp (b : Byte) (s : State) : Result := undocumented s .stable (opDcp (.zp b) s)

/-- $CF `DCP a` (R281). -/
def execDcpAbs (a : Addr) (s : State) : Result := undocumented s .stable (opDcp (.abs a) s)

/-- $D3 `DCP (d),Y` (R281). -/
def execDcpIndY (b : Byte) (s : State) : Result := undocumented s .stable (opDcp (.indY b) s)

/-- $D7 `DCP d,X` (R281). -/
def execDcpZpX (b : Byte) (s : State) : Result := undocumented s .stable (opDcp (.zpX b) s)

/-- $DB `DCP a,Y` (R281). -/
def execDcpAbsY (a : Addr) (s : State) : Result := undocumented s .stable (opDcp (.absY a) s)

/-- $DF `DCP a,X` (R281). -/
def execDcpAbsX (a : Addr) (s : State) : Result := undocumented s .stable (opDcp (.absX a) s)

/-- $E3 `ISC (d,X)` (R282). -/
def execIscIndX (b : Byte) (s : State) : Result := undocumented s .stable (opIsc (.indX b) s)

/-- $E7 `ISC d` (R282). -/
def execIscZp (b : Byte) (s : State) : Result := undocumented s .stable (opIsc (.zp b) s)

/-- $EF `ISC a` (R282). -/
def execIscAbs (a : Addr) (s : State) : Result := undocumented s .stable (opIsc (.abs a) s)

/-- $F3 `ISC (d),Y` (R282). -/
def execIscIndY (b : Byte) (s : State) : Result := undocumented s .stable (opIsc (.indY b) s)

/-- $F7 `ISC d,X` (R282). -/
def execIscZpX (b : Byte) (s : State) : Result := undocumented s .stable (opIsc (.zpX b) s)

/-- $FB `ISC a,Y` (R282). -/
def execIscAbsY (a : Addr) (s : State) : Result := undocumented s .stable (opIsc (.absY a) s)

/-- $FF `ISC a,X` (R282). -/
def execIscAbsX (a : Addr) (s : State) : Result := undocumented s .stable (opIsc (.absX a) s)

/-- $0B `ANC #i` (R283). -/
def execAncImm0B (b : Byte) (s : State) : Result := undocumented s .stable (opAnc b s)

/-- $2B `ANC #i` (R283). -/
def execAncImm2B (b : Byte) (s : State) : Result := undocumented s .stable (opAnc b s)

/-- $4B `ALR #i` (R284). -/
def execAlrImm (b : Byte) (s : State) : Result := undocumented s .stable (opAlr b s)

/-- $6B `ARR #i` (R285). -/
def execArrImm (b : Byte) (s : State) : Result := undocumented s .stable (opArr b s)

/-- $CB `AXS #i` (R286). -/
def execAxsImm (b : Byte) (s : State) : Result := undocumented s .stable (opAxs b s)

/-- $BB `LAS a,Y` (R287). -/
def execLasAbsY (a : Addr) (s : State) : Result := undocumented s .stable (opLas (.absY a) s)

/-- $8B `XAA #i` (R288). -/
def execXaaImm (b : Byte) (s : State) : Result := undocumented s .unstable (opXaa b s)

/-- $AB `LAX #i` (R289). -/
def execLaxImm (b : Byte) (s : State) : Result := undocumented s .unstable (opLaxImm b s)

/-- $93 `AHX (d),Y` (R290). -/
def execAhxIndY (b : Byte) (s : State) : Result := undocumented s .unstable (opAhx (.indY b) s)

/-- $9F `AHX a,Y` (R290). -/
def execAhxAbsY (a : Addr) (s : State) : Result := undocumented s .unstable (opAhx (.absY a) s)

/-- $9B `TAS a,Y` (R291). -/
def execTasAbsY (a : Addr) (s : State) : Result := undocumented s .unstable (opTas (.absY a) s)

/-- $9C `SHY a,X` (R292). -/
def execShyAbsX (a : Addr) (s : State) : Result := undocumented s .unstable (opShy (.absX a) s)

/-- $9E `SHX a,Y` (R293). -/
def execShxAbsY (a : Addr) (s : State) : Result := undocumented s .unstable (opShx (.absY a) s)

end Sys2Proof.Machine
end

