-- ==== Sys2Proof/Machine/Timing.lean ====
section
/-! DEFINITION. The ghost cycle counts (`spec/70_reset_and_hazards.md` R380 to R382, D22) and what a step does to the
hidden state after the instruction (`spec/60_exceptions.md` R336). No instruction reads either count. -/

namespace Sys2Proof.Machine

/-- A cell of the cycle matrix (R380). -/
inductive CycleCount where
  | /-- A count without a mark. -/ fixed (n : Nat)
  | /-- A count with "+": one more on a page crossing (R381). -/ plus (n : Nat)
  | /-- "2*", a branch (R382). -/ branch
  | /-- "-": STP never completes. -/ never
  deriving DecidableEq, Repr

/-- Row 0x of the cycle matrix (R380). -/
def cycleRow0 : List CycleCount :=
  [.fixed 7, .fixed 6, .never, .fixed 8, .fixed 3, .fixed 3, .fixed 5, .fixed 5,
   .fixed 3, .fixed 2, .fixed 2, .fixed 2, .fixed 4, .fixed 4, .fixed 6, .fixed 6]

/-- Row 1x of the cycle matrix (R380). -/
def cycleRow1 : List CycleCount :=
  [.branch, .plus 5, .never, .fixed 8, .fixed 4, .fixed 4, .fixed 6, .fixed 6,
   .fixed 2, .plus 4, .fixed 2, .fixed 7, .plus 4, .plus 4, .fixed 7, .fixed 7]

/-- Row 2x of the cycle matrix (R380). -/
def cycleRow2 : List CycleCount :=
  [.fixed 6, .fixed 6, .never, .fixed 8, .fixed 3, .fixed 3, .fixed 5, .fixed 5,
   .fixed 4, .fixed 2, .fixed 2, .fixed 2, .fixed 4, .fixed 4, .fixed 6, .fixed 6]

/-- Row 3x of the cycle matrix (R380). -/
def cycleRow3 : List CycleCount :=
  [.branch, .plus 5, .never, .fixed 8, .fixed 4, .fixed 4, .fixed 6, .fixed 6,
   .fixed 2, .plus 4, .fixed 2, .fixed 7, .plus 4, .plus 4, .fixed 7, .fixed 7]

/-- Row 4x of the cycle matrix (R380). -/
def cycleRow4 : List CycleCount :=
  [.fixed 6, .fixed 6, .never, .fixed 8, .fixed 3, .fixed 3, .fixed 5, .fixed 5,
   .fixed 3, .fixed 2, .fixed 2, .fixed 2, .fixed 3, .fixed 4, .fixed 6, .fixed 6]

/-- Row 5x of the cycle matrix (R380). -/
def cycleRow5 : List CycleCount :=
  [.branch, .plus 5, .never, .fixed 8, .fixed 4, .fixed 4, .fixed 6, .fixed 6,
   .fixed 2, .plus 4, .fixed 2, .fixed 7, .plus 4, .plus 4, .fixed 7, .fixed 7]

/-- Row 6x of the cycle matrix (R380). -/
def cycleRow6 : List CycleCount :=
  [.fixed 6, .fixed 6, .never, .fixed 8, .fixed 3, .fixed 3, .fixed 5, .fixed 5,
   .fixed 4, .fixed 2, .fixed 2, .fixed 2, .fixed 5, .fixed 4, .fixed 6, .fixed 6]

/-- Row 7x of the cycle matrix (R380). -/
def cycleRow7 : List CycleCount :=
  [.branch, .plus 5, .never, .fixed 8, .fixed 4, .fixed 4, .fixed 6, .fixed 6,
   .fixed 2, .plus 4, .fixed 2, .fixed 7, .plus 4, .plus 4, .fixed 7, .fixed 7]

/-- Row 8x of the cycle matrix (R380). -/
def cycleRow8 : List CycleCount :=
  [.fixed 2, .fixed 6, .fixed 2, .fixed 6, .fixed 3, .fixed 3, .fixed 3, .fixed 3,
   .fixed 2, .fixed 2, .fixed 2, .fixed 2, .fixed 4, .fixed 4, .fixed 4, .fixed 4]

/-- Row 9x of the cycle matrix (R380). -/
def cycleRow9 : List CycleCount :=
  [.branch, .fixed 6, .never, .fixed 6, .fixed 4, .fixed 4, .fixed 4, .fixed 4,
   .fixed 2, .fixed 5, .fixed 2, .fixed 5, .fixed 5, .fixed 5, .fixed 5, .fixed 5]

/-- Row Ax of the cycle matrix (R380). -/
def cycleRowA : List CycleCount :=
  [.fixed 2, .fixed 6, .fixed 2, .fixed 6, .fixed 3, .fixed 3, .fixed 3, .fixed 3,
   .fixed 2, .fixed 2, .fixed 2, .fixed 2, .fixed 4, .fixed 4, .fixed 4, .fixed 4]

/-- Row Bx of the cycle matrix (R380). -/
def cycleRowB : List CycleCount :=
  [.branch, .plus 5, .never, .plus 5, .fixed 4, .fixed 4, .fixed 4, .fixed 4,
   .fixed 2, .plus 4, .fixed 2, .plus 4, .plus 4, .plus 4, .plus 4, .plus 4]

/-- Row Cx of the cycle matrix (R380). -/
def cycleRowC : List CycleCount :=
  [.fixed 2, .fixed 6, .fixed 2, .fixed 8, .fixed 3, .fixed 3, .fixed 5, .fixed 5,
   .fixed 2, .fixed 2, .fixed 2, .fixed 2, .fixed 4, .fixed 4, .fixed 6, .fixed 6]

/-- Row Dx of the cycle matrix (R380). -/
def cycleRowD : List CycleCount :=
  [.branch, .plus 5, .never, .fixed 8, .fixed 4, .fixed 4, .fixed 6, .fixed 6,
   .fixed 2, .plus 4, .fixed 2, .fixed 7, .plus 4, .plus 4, .fixed 7, .fixed 7]

/-- Row Ex of the cycle matrix (R380). -/
def cycleRowE : List CycleCount :=
  [.fixed 2, .fixed 6, .fixed 2, .fixed 8, .fixed 3, .fixed 3, .fixed 5, .fixed 5,
   .fixed 2, .fixed 2, .fixed 2, .fixed 2, .fixed 4, .fixed 4, .fixed 6, .fixed 6]

/-- Row Fx of the cycle matrix (R380). -/
def cycleRowF : List CycleCount :=
  [.branch, .plus 5, .never, .fixed 8, .fixed 4, .fixed 4, .fixed 6, .fixed 6,
   .fixed 2, .plus 4, .fixed 2, .fixed 7, .plus 4, .plus 4, .fixed 7, .fixed 7]

/-- The cycle matrix by opcode byte (R380). -/
def cycleMatrix : List CycleCount :=
  cycleRow0 ++ cycleRow1 ++ cycleRow2 ++ cycleRow3 ++
  cycleRow4 ++ cycleRow5 ++ cycleRow6 ++ cycleRow7 ++
  cycleRow8 ++ cycleRow9 ++ cycleRowA ++ cycleRowB ++
  cycleRowC ++ cycleRowD ++ cycleRowE ++ cycleRowF

theorem cycleMatrix_length : cycleMatrix.length = 256 := by
  simp only [cycleMatrix, cycleRow0, cycleRow1, cycleRow2, cycleRow3, cycleRow4, cycleRow5, cycleRow6, cycleRow7,
    cycleRow8, cycleRow9, cycleRowA, cycleRowB, cycleRowC, cycleRowD, cycleRowE, cycleRowF,
    List.length_append, List.length_cons, List.length_nil]

/-- The count of an opcode byte (R380). -/
def cycleCountOf (op : Byte) : CycleCount :=
  cycleMatrix[op.toNat]'(cycleMatrix_length ▸ op.isLt)

/-- Whether the operand's address crosses a page (R82, R381). -/
def crossesPage (o : Operand) (s : State) : Bool :=
  match o with
  | .mem m => m.crossed s
  | .implicit => false
  | .accumulator => false
  | .relative _ => false
  | .indirect _ => false

/-- Whether a branch goes to a new page: the pages of the next instruction and of the target differ (R87, R382). -/
def branchNewPage (o : Operand) (s : State) : Bool :=
  match o with
  | .relative b => hi (s.pc + 2) != hi (branchTarget b s)
  | .implicit => false
  | .accumulator => false
  | .indirect _ => false
  | .mem _ => false

/-- The cycles of an instruction that runs at a state (R380 to R382). STP, which never completes, counts 0 (log 15). -/
def cyclesTaken (i : Instr) (s : State) : Nat :=
  match cycleCountOf i.opcode with
  | .fixed n => n
  | .plus n => n + (crossesPage i.operand s).toNat
  | .branch =>
    2 + if branchTaken i.mnemonic s.p then 1 + (branchNewPage i.operand s).toNat else 0
  | .never => 0

/-- The instructions after which the interrupt decision uses the I of before: CLI, SEI, PLP (R333, R336). -/
def delaysI (m : Mnemonic) : Bool := m == .CLI || m == .SEI || m == .PLP

/-- `i_for_poll` after an instruction (R333, R336), from the states before and after it. -/
def iForPollAfter (i : Instr) (s t : State) : Bool := if delaysI i.mnemonic then s.p.i else t.p.i

/-- The end of a step that executed an instruction: `i_for_poll` is written (R336), the step is counted (log 23) and the
ghost count advances (R380). -/
def finishStep (i : Instr) (s t : State) : State :=
  { t with iForPoll := iForPollAfter i s t, steps := t.steps + 1, cycles := t.cycles + cyclesTaken i s }

end Sys2Proof.Machine
end

