-- ==== Sys2Proof/Machine/Step.lean ====
section
/-! DEFINITION. One step of the machine (`spec/60_exceptions.md` R333), and the placing of an instruction where the
next step fetches it. -/

namespace Sys2Proof.Machine

/-- The instruction executed at a state, and the end of its step (R333). -/
def runInstr (i : Instr) (s : State) : Host.Outcome State Fault Refusal :=
  match exec i s with
  | .next t => .next (finishStep i s t)
  | .fault f => .fault f
  | .refused r => .refused r

/-- One step (R333): reset, then no step if stopped, then NMI, then IRQ, then the instruction at PC. -/
def step (s : State) : Host.Outcome State Fault Refusal :=
  match boundaryEvent s.resetRequested s.takeInput with
  | .reset => .next s.takeInput.resetStep
  | .stuck => .fault .stuck
  | .nmi => .next s.takeInput.takeNmi
  | .irq => .next s.takeInput.takeIrq
  | .instruction => runInstr s.takeInput.fetch s.takeInput

/-- A byte placed at an address from outside the machine. Where no memory lies, the platform is given ROM there, so that
a read returns the byte (log 16). -/
def State.placeByte (s : State) (a : Addr) (v : Byte) : State :=
  { s with
    mem := Memory.write s.mem a.toNat v
    settings := if s.readable a then s.settings
      else { s.settings with platform := ⟨a, a, .rom⟩ :: s.settings.platform } }

/-- The state with an instruction placed at PC, and with nothing pending that would keep the next step from fetching it
(no coming input, no NMI, no IRQ level, not stopped; log 16). -/
def State.withFetchWord (s : State) (nbits w : Nat) : State :=
  { (((s.placeByte s.pc (wordByte nbits w 0)).placeByte (s.pc + 1) (wordByte nbits w 1)).placeByte (s.pc + 2)
      (wordByte nbits w 2)) with
    inputs := []
    irqLine := false
    nmiPending := false
    stopped := false }

end Sys2Proof.Machine
end

