-- ==== Sys2Proof/Safety.lean ====
section
/-! DEFINITION. The terms in which claims are made: the invariant of the state, running and ending, states that agree
but for the ghost count, and the encodings of a mnemonic as its rule lists them. -/

namespace Sys2Proof.Machine

/-- The invariant of the machine: memory has its canonical form, and with it every listed address is one of the 65,536
(R50). The widths of the registers are in their types. -/
def State.Inv (s : State) : Prop := Memory.wf s.mem = true

/-- `EndOfRun` (`spec/00_scope.md` R7, D20): the state reached within the number of steps ends the run. -/
def endsWithin (endOfRun : State → Bool) (n : Nat) (s : State) : Prop :=
  ∃ k, k ≤ n ∧ ∃ t, core.run k s = .next t ∧ endOfRun t = true

/-- The state with its ghost cycle count replaced (R380). -/
def State.withCycles (s : State) (n : Nat) : State := { s with cycles := n }

/-- An outcome with the ghost cycle count of its state replaced. -/
def outcomeWithCycles (n : Nat) : Result → Result
  | .next s => .next (s.withCycles n)
  | .fault f => .fault f
  | .refused r => .refused r

/-- An outcome's next state taken on by one more instruction. -/
def andThen (r : Result) (f : State → Result) : Result :=
  match r with
  | .next s => f s
  | .fault e => .fault e
  | .refused e => .refused e

/-- The cells of a mnemonic in the order of the opcode byte: the mode, the byte, the cycle count. It is the "Encodings"
line of the mnemonic's rule. -/
def encodings (m : Mnemonic) : List (Mode × Byte × CycleCount) :=
  ((opcodeMatrix.zip cycleMatrix).zipIdx).filterMap fun e =>
    let i := fillCell e.1.1 0 0
    if i.mnemonic = m then some (i.operand.mode, BitVec.ofNat 8 e.2, e.1.2) else none

end Sys2Proof.Machine
end

