-- ==== Sys2Proof/Certificates/Slice0/Obligations.lean ====
section
/-! DEFINITION. The statements for the provers. `encodings` is the "Encodings" line of a rule; `o.ea s`, `o.value s` are
the effective address and the operand byte of the mode rules (stated by AddressingModesGiveTheEffectiveAddress). A next
state written as a record update leaves every field that it does not name unchanged; where memory changes, the other
fields are compared by putting the old memory back, and memory is compared byte by byte. `s.writable a` says that RAM
lies at the address, and `s.params` are the open parameters of the state (R7), so a statement about every state holds
under every value of them. -/

open Sys2Proof Sys2Proof.Machine

/-- LDA, LDX, LDY complete with the operand byte in the register, Z and N from it, nothing else changed. States
R120, R121, R122. -/
def Obligations.LoadsWriteTheirRegister : Prop :=
  (∀ (i : Instr) (o : MemOperand) (s : State), i.mnemonic = .LDA → i.operand = .mem o →
    exec i s = .next { s with
      a := o.value s
      p := { s.p with z := o.value s == 0, n := (o.value s).getLsbD 7 }
      pc := s.pc + BitVec.ofNat 16 i.length }) ∧
  (∀ (i : Instr) (o : MemOperand) (s : State), i.mnemonic = .LDX → i.operand = .mem o →
    exec i s = .next { s with
      x := o.value s
      p := { s.p with z := o.value s == 0, n := (o.value s).getLsbD 7 }
      pc := s.pc + BitVec.ofNat 16 i.length }) ∧
  (∀ (i : Instr) (o : MemOperand) (s : State), i.mnemonic = .LDY → i.operand = .mem o →
    exec i s = .next { s with
      y := o.value s
      p := { s.p with z := o.value s == 0, n := (o.value s).getLsbD 7 }
      pc := s.pc + BitVec.ofNat 16 i.length }) ∧
  encodings .LDA = [(.indX, 0xA1, .fixed 6), (.zp, 0xA5, .fixed 3), (.imm, 0xA9, .fixed 2), (.abs, 0xAD, .fixed 4),
      (.indY, 0xB1, .plus 5), (.zpX, 0xB5, .fixed 4), (.absY, 0xB9, .plus 4), (.absX, 0xBD, .plus 4)] ∧
  encodings .LDX = [(.imm, 0xA2, .fixed 2), (.zp, 0xA6, .fixed 3), (.abs, 0xAE, .fixed 4), (.zpY, 0xB6, .fixed 4),
      (.absY, 0xBE, .plus 4)] ∧
  encodings .LDY = [(.imm, 0xA0, .fixed 2), (.zp, 0xA4, .fixed 3), (.abs, 0xAC, .fixed 4), (.zpX, 0xB4, .fixed 4),
      (.absX, 0xBC, .plus 4)]

/-- STA, STX, STY complete, write the register at ea, and change no other byte, register or flag. States R123, R124,
R125. -/
def Obligations.StoresWriteOneByteAtTheEffectiveAddress : Prop :=
  (∀ (i : Instr) (o : MemOperand) (s : State), i.mnemonic = .STA → i.operand = .mem o →
    ∃ t, exec i s = .next t ∧ { t with mem := s.mem } = { s with pc := s.pc + BitVec.ofNat 16 i.length } ∧
      (s.writable (o.ea s) = true → t.read (o.ea s) = s.a) ∧ ∀ k, k ≠ o.ea s → t.read k = s.read k) ∧
  (∀ (i : Instr) (o : MemOperand) (s : State), i.mnemonic = .STX → i.operand = .mem o →
    ∃ t, exec i s = .next t ∧ { t with mem := s.mem } = { s with pc := s.pc + BitVec.ofNat 16 i.length } ∧
      (s.writable (o.ea s) = true → t.read (o.ea s) = s.x) ∧ ∀ k, k ≠ o.ea s → t.read k = s.read k) ∧
  (∀ (i : Instr) (o : MemOperand) (s : State), i.mnemonic = .STY → i.operand = .mem o →
    ∃ t, exec i s = .next t ∧ { t with mem := s.mem } = { s with pc := s.pc + BitVec.ofNat 16 i.length } ∧
      (s.writable (o.ea s) = true → t.read (o.ea s) = s.y) ∧ ∀ k, k ≠ o.ea s → t.read k = s.read k) ∧
  encodings .STA = [(.indX, 0x81, .fixed 6), (.zp, 0x85, .fixed 3), (.abs, 0x8D, .fixed 4),
      (.indY, 0x91, .fixed 6), (.zpX, 0x95, .fixed 4), (.absY, 0x99, .fixed 5), (.absX, 0x9D, .fixed 5)] ∧
  encodings .STX = [(.zp, 0x86, .fixed 3), (.abs, 0x8E, .fixed 4), (.zpY, 0x96, .fixed 4)] ∧
  encodings .STY = [(.zp, 0x84, .fixed 3), (.abs, 0x8C, .fixed 4), (.zpX, 0x94, .fixed 4)]

/-- TAX, TAY, TSX, TXA, TYA copy and set Z and N; TXS copies and sets no flag; nothing else changes. States R140,
R141, R142, R143, R144, R145. -/
def Obligations.TransfersCopyARegister : Prop :=
  (∀ s : State,
    exec .tax s = .next { s with
      x := s.a
      p := { s.p with z := s.a == 0, n := (s.a).getLsbD 7 }
      pc := s.pc + 1 } ∧
    exec .tay s = .next { s with
      y := s.a
      p := { s.p with z := s.a == 0, n := (s.a).getLsbD 7 }
      pc := s.pc + 1 } ∧
    exec .tsx s = .next { s with
      x := s.sp
      p := { s.p with z := s.sp == 0, n := (s.sp).getLsbD 7 }
      pc := s.pc + 1 } ∧
    exec .txa s = .next { s with
      a := s.x
      p := { s.p with z := s.x == 0, n := (s.x).getLsbD 7 }
      pc := s.pc + 1 } ∧
    exec .txs s = .next { s with
      sp := s.x
      pc := s.pc + 1 } ∧
    exec .tya s = .next { s with
      a := s.y
      p := { s.p with z := s.y == 0, n := (s.y).getLsbD 7 }
      pc := s.pc + 1 }) ∧
  encodings .TAX = [(.implicit, 0xAA, .fixed 2)] ∧
  encodings .TAY = [(.implicit, 0xA8, .fixed 2)] ∧
  encodings .TSX = [(.implicit, 0xBA, .fixed 2)] ∧
  encodings .TXA = [(.implicit, 0x8A, .fixed 2)] ∧
  encodings .TXS = [(.implicit, 0x9A, .fixed 2)] ∧
  encodings .TYA = [(.implicit, 0x98, .fixed 2)]

/-- PHA, PHP push one byte at $0100+S and lower S; PLA, PLP raise S and read there; frames stated. States R146,
R147, R148, R149. -/
def Obligations.StackInstructionsPushAndPull : Prop :=
  (∀ s : State, ∃ t, exec .pha s = .next t ∧
    { t with mem := s.mem } = { s with sp := s.sp - 1, pc := s.pc + 1 } ∧
    (s.writable (join 0x01 s.sp) = true → t.read (join 0x01 s.sp) = s.a) ∧
    ∀ k, k ≠ join 0x01 s.sp → t.read k = s.read k) ∧
  (∀ s : State, ∃ t, exec .php s = .next t ∧
    { t with mem := s.mem } = { s with sp := s.sp - 1, pc := s.pc + 1 } ∧
    (s.writable (join 0x01 s.sp) = true → t.read (join 0x01 s.sp) = s.p.toByte true) ∧
    ∀ k, k ≠ join 0x01 s.sp → t.read k = s.read k) ∧
  (∀ s : State, exec .pla s = .next { s with
    a := s.read (join 0x01 (s.sp + 1))
    sp := s.sp + 1
    p := { s.p with z := s.read (join 0x01 (s.sp + 1)) == 0, n := (s.read (join 0x01 (s.sp + 1))).getLsbD 7 }
    pc := s.pc + 1 }) ∧
  (∀ s : State, exec .plp s = .next { s with
    sp := s.sp + 1
    p := { c := (s.read (join 0x01 (s.sp + 1))).getLsbD 0, z := (s.read (join 0x01 (s.sp + 1))).getLsbD 1,
           i := (s.read (join 0x01 (s.sp + 1))).getLsbD 2, d := (s.read (join 0x01 (s.sp + 1))).getLsbD 3,
           v := (s.read (join 0x01 (s.sp + 1))).getLsbD 6, n := (s.read (join 0x01 (s.sp + 1))).getLsbD 7 }
    pc := s.pc + 1 }) ∧
  (delaysI .PLP = true ∧ delaysI .PLA = false) ∧
  encodings .PHA = [(.implicit, 0x48, .fixed 3)] ∧
  encodings .PHP = [(.implicit, 0x08, .fixed 3)] ∧
  encodings .PLA = [(.implicit, 0x68, .fixed 4)] ∧
  encodings .PLP = [(.implicit, 0x28, .fixed 4)]

/-- AND, ORA, EOR complete with A combined with M, Z and N from the result, nothing else changed. States R160, R161,
R162. -/
def Obligations.LogicCombinesAWithTheOperand : Prop :=
  (∀ (i : Instr) (o : MemOperand) (s : State), i.mnemonic = .AND → i.operand = .mem o →
    exec i s = .next { s with
      a := s.a &&& o.value s
      p := { s.p with z := s.a &&& o.value s == 0, n := (s.a &&& o.value s).getLsbD 7 }
      pc := s.pc + BitVec.ofNat 16 i.length }) ∧
  (∀ (i : Instr) (o : MemOperand) (s : State), i.mnemonic = .ORA → i.operand = .mem o →
    exec i s = .next { s with
      a := s.a ||| o.value s
      p := { s.p with z := s.a ||| o.value s == 0, n := (s.a ||| o.value s).getLsbD 7 }
      pc := s.pc + BitVec.ofNat 16 i.length }) ∧
  (∀ (i : Instr) (o : MemOperand) (s : State), i.mnemonic = .EOR → i.operand = .mem o →
    exec i s = .next { s with
      a := s.a ^^^ o.value s
      p := { s.p with z := s.a ^^^ o.value s == 0, n := (s.a ^^^ o.value s).getLsbD 7 }
      pc := s.pc + BitVec.ofNat 16 i.length }) ∧
  encodings .AND = [(.indX, 0x21, .fixed 6), (.zp, 0x25, .fixed 3), (.imm, 0x29, .fixed 2), (.abs, 0x2D, .fixed 4),
      (.indY, 0x31, .plus 5), (.zpX, 0x35, .fixed 4), (.absY, 0x39, .plus 4), (.absX, 0x3D, .plus 4)] ∧
  encodings .ORA = [(.indX, 0x01, .fixed 6), (.zp, 0x05, .fixed 3), (.imm, 0x09, .fixed 2), (.abs, 0x0D, .fixed 4),
      (.indY, 0x11, .plus 5), (.zpX, 0x15, .fixed 4), (.absY, 0x19, .plus 4), (.absX, 0x1D, .plus 4)] ∧
  encodings .EOR = [(.indX, 0x41, .fixed 6), (.zp, 0x45, .fixed 3), (.imm, 0x49, .fixed 2), (.abs, 0x4D, .fixed 4),
      (.indY, 0x51, .plus 5), (.zpX, 0x55, .fixed 4), (.absY, 0x59, .plus 4), (.absX, 0x5D, .plus 4)]

/-- BIT sets Z from A AND M, V from bit 6 and N from bit 7 of M, and changes no register and no I. States R163. -/
def Obligations.BitTestsAAgainstTheOperand : Prop :=
  (∀ (i : Instr) (o : MemOperand) (s : State), i.mnemonic = .BIT → i.operand = .mem o →
    exec i s = .next { s with
      p := { s.p with z := s.a &&& o.value s == 0, v := (o.value s).getLsbD 6, n := (o.value s).getLsbD 7 }
      pc := s.pc + BitVec.ofNat 16 i.length }) ∧
  encodings .BIT = [(.zp, 0x24, .fixed 3), (.abs, 0x2C, .fixed 4)]

/-- ADC with D = 0 or in binary mode: A + M + C modulo 256, C the carry, V the XOR formula, Z and N. States R164. -/
def Obligations.AdcAddsInBinary : Prop :=
  (∀ (i : Instr) (o : MemOperand) (s : State), i.mnemonic = .ADC → i.operand = .mem o →
    (s.p.d = false ∨ s.params.decimalMode = .binary) →
    let m := o.value s
    let t := s.a.toNat + m.toNat + s.p.c.toNat
    let r := BitVec.ofNat 8 t
    exec i s = .next { s with
      a := r
      p := { s.p with
        c := decide (255 < t)
        z := r == 0
        v := ((s.a ^^^ r) &&& (m ^^^ r)).getLsbD 7
        n := r.getLsbD 7 }
      pc := s.pc + BitVec.ofNat 16 i.length } ∧
    (((s.a ^^^ r) &&& (m ^^^ r)).getLsbD 7 = true ↔
      s.a.toInt + m.toInt + (s.p.c.toNat : Int) < -128 ∨ 127 < s.a.toInt + m.toInt + (s.p.c.toNat : Int))) ∧
  encodings .ADC = [(.indX, 0x61, .fixed 6), (.zp, 0x65, .fixed 3), (.imm, 0x69, .fixed 2), (.abs, 0x6D, .fixed 4),
      (.indY, 0x71, .plus 5), (.zpX, 0x75, .fixed 4), (.absY, 0x79, .plus 4), (.absX, 0x7D, .plus 4)]

/-- SBC (with the second cell $EB), D = 0 or binary mode: A - M - (1 - C), C = no borrow, V, Z and N. States R165,
R274. -/
def Obligations.SbcSubtractsInBinary : Prop :=
  (∀ (i : Instr) (o : MemOperand) (s : State), i.mnemonic = .SBC → i.operand = .mem o →
    (i.opcode = 0xEB → s.params.undocPolicy ≠ .refuseAll) → (s.p.d = false ∨ s.params.decimalMode = .binary) →
    let m := o.value s
    let t : Int := (s.a.toNat : Int) - (m.toNat : Int) - (1 - (s.p.c.toNat : Int))
    let r := BitVec.ofInt 8 t
    exec i s = .next { s with
      a := r
      p := { s.p with
        c := decide (0 ≤ t)
        z := r == 0
        v := ((s.a ^^^ m) &&& (s.a ^^^ r)).getLsbD 7
        n := r.getLsbD 7 }
      pc := s.pc + BitVec.ofNat 16 i.length } ∧
    (((s.a ^^^ m) &&& (s.a ^^^ r)).getLsbD 7 = true ↔
      s.a.toInt - m.toInt - (1 - (s.p.c.toNat : Int)) < -128 ∨
      127 < s.a.toInt - m.toInt - (1 - (s.p.c.toNat : Int)))) ∧
  (∀ (a m : Byte) (c : Bool), sbcBinary a m c = adcBinary a (m ^^^ 0xFF) c) ∧
  (∀ (b : Byte) (s : State), s.params.undocPolicy ≠ .refuseAll → exec (.sbcImmEB b) s = exec (.sbcImm b) s) ∧
  encodings .SBC = [(.indX, 0xE1, .fixed 6), (.zp, 0xE5, .fixed 3), (.imm, 0xE9, .fixed 2), (.imm, 0xEB, .fixed 2),
      (.abs, 0xED, .fixed 4), (.indY, 0xF1, .plus 5), (.zpX, 0xF5, .fixed 4), (.absY, 0xF9, .plus 4),
      (.absX, 0xFD, .plus 4)]

/-- ADC and SBC complete in every state but D = 1 under DECIMAL_MODE = refuse, where they refuse. From R171, R274,
42_logic_arith.md Decimal mode, 92_eei_decisions.md D10. The last clause is the model's choice (log 5). -/
def Obligations.AdcAndSbcByDecimalMode : Prop :=
  (∀ (i : Instr) (o : MemOperand) (s : State), i.mnemonic = .ADC → i.operand = .mem o →
    (s.p.d = false ∨ s.params.decimalMode ≠ .refuse) →
    ∃ r, adcSum s.params.decimalMode s.p.d s.a (o.value s) s.p.c = some r ∧
      exec i s = .next { s with
        a := r.a
        p := { s.p with c := r.c, z := r.z, v := r.v, n := r.n }
        pc := s.pc + BitVec.ofNat 16 i.length }) ∧
  (∀ (i : Instr) (o : MemOperand) (s : State), i.mnemonic = .ADC → i.operand = .mem o →
    s.p.d = true → s.params.decimalMode = .refuse →
    exec i s = .refused .decimalModeRefused) ∧
  (∀ (i : Instr) (o : MemOperand) (s : State), i.mnemonic = .SBC → i.operand = .mem o →
    (i.opcode = 0xEB → s.params.undocPolicy ≠ .refuseAll) → (s.p.d = false ∨ s.params.decimalMode ≠ .refuse) →
    ∃ r, sbcSum s.params.decimalMode s.p.d s.a (o.value s) s.p.c = some r ∧
      exec i s = .next { s with
        a := r.a
        p := { s.p with c := r.c, z := r.z, v := r.v, n := r.n }
        pc := s.pc + BitVec.ofNat 16 i.length }) ∧
  (∀ (i : Instr) (o : MemOperand) (s : State), i.mnemonic = .SBC → i.operand = .mem o →
    (i.opcode = 0xEB → s.params.undocPolicy ≠ .refuseAll) → s.p.d = true → s.params.decimalMode = .refuse →
    exec i s = .refused .decimalModeRefused) ∧
  (∀ k : Settings, k.decimalMode = none → (settingsParams k).decimalMode ≠ .refuse)

/-- D and DECIMAL_MODE select the binary sum, the nmos_bcd algorithm or a refusal, for ADC and SBC. From R171,
42_logic_arith.md Decimal mode. -/
def Obligations.DecimalModeSelectsTheAlgorithm : Prop :=
  ∀ (a m : Byte) (c : Bool),
    (∀ mode, adcSum mode false a m c = some (adcBinary a m c) ∧ sbcSum mode false a m c = some (sbcBinary a m c)) ∧
    (adcSum .binary true a m c = some (adcBinary a m c) ∧ sbcSum .binary true a m c = some (sbcBinary a m c)) ∧
    (let al := (a &&& 0x0F).toNat + (m &&& 0x0F).toNat + c.toNat
      let al := if 0x0A ≤ al then ((al + 0x06) % 16) + 0x10 else al
      let t := (a &&& 0xF0).toNat + (m &&& 0xF0).toNat + al
      let u := if 0xA0 ≤ t then t + 0x60 else t
      adcSum .nmosBcd true a m c = some
        { a := BitVec.ofNat 8 u
          c := decide (0x100 ≤ u)
          z := decide ((a.toNat + m.toNat + c.toNat) % 256 = 0)
          v := ((a ^^^ BitVec.ofNat 8 t) &&& (m ^^^ BitVec.ofNat 8 t)).getLsbD 7
          n := t.testBit 7 }) ∧
    (let al : Int := ((a &&& 0x0F).toNat : Int) - ((m &&& 0x0F).toNat : Int) - (1 - (c.toNat : Int))
      let al := if al < 0 then ((al - 0x06) % 16) - 0x10 else al
      let t := ((a &&& 0xF0).toNat : Int) - ((m &&& 0xF0).toNat : Int) + al
      let t := if t < 0 then t - 0x60 else t
      sbcSum .nmosBcd true a m c = some { sbcBinary a m c with a := BitVec.ofInt 8 t }) ∧
    (adcSum .refuse true a m c = none ∧ sbcSum .refuse true a m c = none) ∧
    (∀ s : State, s.params.decimalMode = .refuse → s.p.d = true →
      adc m s = .refused .decimalModeRefused ∧ sbc m s = .refused .decimalModeRefused)

/-- On valid digits the nmos_bcd algorithm adds and subtracts two-digit decimal numbers, with carry and borrow. From
R171, 42_logic_arith.md Decimal mode. -/
def Obligations.DecimalArithmeticIsRightOnDigits : Prop :=
  ∀ (p q p' q' : Nat) (c : Bool), p < 10 → q < 10 → p' < 10 → q' < 10 →
    let bcd : Nat → Byte := fun k => BitVec.ofNat 8 (16 * (k / 10) + k % 10)
    let x := 10 * p + q
    let y := 10 * p' + q'
    let n := x + y + c.toNat
    let d : Int := (x : Int) - (y : Int) - (1 - (c.toNat : Int))
    (adcDecimal (bcd x) (bcd y) c).a = bcd (n % 100) ∧ (adcDecimal (bcd x) (bcd y) c).c = decide (100 ≤ n) ∧
    (sbcDecimal (bcd x) (bcd y) c).a = bcd (d % 100).toNat ∧ (sbcDecimal (bcd x) (bcd y) c).c = decide (0 ≤ d)

/-- CMP, CPX, CPY set C, Z, N from the unsigned comparison, leave V and the registers alone, ignore D and C. States
R166, R167, R168. -/
def Obligations.ComparesSetCarryZeroNegative : Prop :=
  (∀ (i : Instr) (o : MemOperand) (s : State), i.mnemonic = .CMP → i.operand = .mem o →
    exec i s = .next { s with
      p := { s.p with
        c := decide ((o.value s).toNat ≤ s.a.toNat)
        z := s.a == o.value s
        n := (s.a - o.value s).getLsbD 7 }
      pc := s.pc + BitVec.ofNat 16 i.length }) ∧
  (∀ (i : Instr) (o : MemOperand) (s : State), i.mnemonic = .CPX → i.operand = .mem o →
    exec i s = .next { s with
      p := { s.p with
        c := decide ((o.value s).toNat ≤ s.x.toNat)
        z := s.x == o.value s
        n := (s.x - o.value s).getLsbD 7 }
      pc := s.pc + BitVec.ofNat 16 i.length }) ∧
  (∀ (i : Instr) (o : MemOperand) (s : State), i.mnemonic = .CPY → i.operand = .mem o →
    exec i s = .next { s with
      p := { s.p with
        c := decide ((o.value s).toNat ≤ s.y.toNat)
        z := s.y == o.value s
        n := (s.y - o.value s).getLsbD 7 }
      pc := s.pc + BitVec.ofNat 16 i.length }) ∧
  encodings .CMP = [(.indX, 0xC1, .fixed 6), (.zp, 0xC5, .fixed 3), (.imm, 0xC9, .fixed 2), (.abs, 0xCD, .fixed 4),
      (.indY, 0xD1, .plus 5), (.zpX, 0xD5, .fixed 4), (.absY, 0xD9, .plus 4), (.absX, 0xDD, .plus 4)] ∧
  encodings .CPX = [(.imm, 0xE0, .fixed 2), (.zp, 0xE4, .fixed 3), (.abs, 0xEC, .fixed 4)] ∧
  encodings .CPY = [(.imm, 0xC0, .fixed 2), (.zp, 0xC4, .fixed 3), (.abs, 0xCC, .fixed 4)]

/-- ASL and LSR, on A and on memory: the result, C the bit shifted out, Z and N; frames stated. States R190, R191. -/
def Obligations.ShiftsMoveOneBitIntoCarry : Prop :=
  (∀ s : State,
    let r := (s.a <<< 1)
    exec .aslAcc s = .next { s with
      a := r
      p := { s.p with c := s.a.getLsbD 7, z := r == 0, n := r.getLsbD 7 }
      pc := s.pc + 1 }) ∧
  (∀ (i : Instr) (o : MemOperand) (s : State), i.mnemonic = .ASL → i.operand = .mem o →
    let v := s.read (o.ea s)
    let r := v <<< 1
    ∃ t, exec i s = .next t ∧
      { t with mem := s.mem } = { s with
        p := { s.p with c := v.getLsbD 7, z := r == 0, n := r.getLsbD 7 }
        pc := s.pc + BitVec.ofNat 16 i.length } ∧
      (s.writable (o.ea s) = true → t.read (o.ea s) = r) ∧ ∀ k, k ≠ o.ea s → t.read k = s.read k) ∧
  (∀ s : State,
    let r := (s.a >>> 1)
    exec .lsrAcc s = .next { s with
      a := r
      p := { s.p with c := s.a.getLsbD 0, z := r == 0, n := r.getLsbD 7 }
      pc := s.pc + 1 }) ∧
  (∀ (i : Instr) (o : MemOperand) (s : State), i.mnemonic = .LSR → i.operand = .mem o →
    let v := s.read (o.ea s)
    let r := v >>> 1
    ∃ t, exec i s = .next t ∧
      { t with mem := s.mem } = { s with
        p := { s.p with c := v.getLsbD 0, z := r == 0, n := r.getLsbD 7 }
        pc := s.pc + BitVec.ofNat 16 i.length } ∧
      (s.writable (o.ea s) = true → t.read (o.ea s) = r) ∧ ∀ k, k ≠ o.ea s → t.read k = s.read k) ∧
  encodings .ASL = [(.zp, 0x06, .fixed 5), (.accumulator, 0x0A, .fixed 2), (.abs, 0x0E, .fixed 6),
      (.zpX, 0x16, .fixed 6), (.absX, 0x1E, .fixed 7)] ∧
  encodings .LSR = [(.zp, 0x46, .fixed 5), (.accumulator, 0x4A, .fixed 2), (.abs, 0x4E, .fixed 6),
      (.zpX, 0x56, .fixed 6), (.absX, 0x5E, .fixed 7)]

/-- ROL and ROR, on A and on memory: a 9-bit rotate through C, Z and N from the result; frames stated. States R192,
R193. -/
def Obligations.RotatesTurnThroughCarry : Prop :=
  (∀ s : State,
    let r := ((s.a <<< 1) ||| (if s.p.c then 0x01 else 0x00))
    exec .rolAcc s = .next { s with
      a := r
      p := { s.p with c := s.a.getLsbD 7, z := r == 0, n := r.getLsbD 7 }
      pc := s.pc + 1 }) ∧
  (∀ (i : Instr) (o : MemOperand) (s : State), i.mnemonic = .ROL → i.operand = .mem o →
    let v := s.read (o.ea s)
    let r := (v <<< 1) ||| (if s.p.c then 0x01 else 0x00)
    ∃ t, exec i s = .next t ∧
      { t with mem := s.mem } = { s with
        p := { s.p with c := v.getLsbD 7, z := r == 0, n := r.getLsbD 7 }
        pc := s.pc + BitVec.ofNat 16 i.length } ∧
      (s.writable (o.ea s) = true → t.read (o.ea s) = r) ∧ ∀ k, k ≠ o.ea s → t.read k = s.read k) ∧
  (∀ s : State,
    let r := ((s.a >>> 1) ||| (if s.p.c then 0x80 else 0x00))
    exec .rorAcc s = .next { s with
      a := r
      p := { s.p with c := s.a.getLsbD 0, z := r == 0, n := r.getLsbD 7 }
      pc := s.pc + 1 }) ∧
  (∀ (i : Instr) (o : MemOperand) (s : State), i.mnemonic = .ROR → i.operand = .mem o →
    let v := s.read (o.ea s)
    let r := (v >>> 1) ||| (if s.p.c then 0x80 else 0x00)
    ∃ t, exec i s = .next t ∧
      { t with mem := s.mem } = { s with
        p := { s.p with c := v.getLsbD 0, z := r == 0, n := r.getLsbD 7 }
        pc := s.pc + BitVec.ofNat 16 i.length } ∧
      (s.writable (o.ea s) = true → t.read (o.ea s) = r) ∧ ∀ k, k ≠ o.ea s → t.read k = s.read k) ∧
  encodings .ROL = [(.zp, 0x26, .fixed 5), (.accumulator, 0x2A, .fixed 2), (.abs, 0x2E, .fixed 6),
      (.zpX, 0x36, .fixed 6), (.absX, 0x3E, .fixed 7)] ∧
  encodings .ROR = [(.zp, 0x66, .fixed 5), (.accumulator, 0x6A, .fixed 2), (.abs, 0x6E, .fixed 6),
      (.zpX, 0x76, .fixed 6), (.absX, 0x7E, .fixed 7)]

/-- INC, DEC on memory and INX, INY, DEX, DEY step by one modulo 256, set Z and N only; frames stated. States R194,
R195, R196, R197, R198, R199. -/
def Obligations.IncrementsAndDecrementsWrap : Prop :=
  (∀ (i : Instr) (o : MemOperand) (s : State), i.mnemonic = .INC → i.operand = .mem o →
    let r := s.read (o.ea s) + 1
    ∃ t, exec i s = .next t ∧
      { t with mem := s.mem } = { s with
        p := { s.p with z := r == 0, n := r.getLsbD 7 }
        pc := s.pc + BitVec.ofNat 16 i.length } ∧
      (s.writable (o.ea s) = true → t.read (o.ea s) = r) ∧ ∀ k, k ≠ o.ea s → t.read k = s.read k) ∧
  (∀ (i : Instr) (o : MemOperand) (s : State), i.mnemonic = .DEC → i.operand = .mem o →
    let r := s.read (o.ea s) - 1
    ∃ t, exec i s = .next t ∧
      { t with mem := s.mem } = { s with
        p := { s.p with z := r == 0, n := r.getLsbD 7 }
        pc := s.pc + BitVec.ofNat 16 i.length } ∧
      (s.writable (o.ea s) = true → t.read (o.ea s) = r) ∧ ∀ k, k ≠ o.ea s → t.read k = s.read k) ∧
  (∀ s : State,
    exec .inx s = .next { s with
      x := s.x + 1
      p := { s.p with z := s.x + 1 == 0, n := (s.x + 1).getLsbD 7 }
      pc := s.pc + 1 } ∧
    exec .iny s = .next { s with
      y := s.y + 1
      p := { s.p with z := s.y + 1 == 0, n := (s.y + 1).getLsbD 7 }
      pc := s.pc + 1 } ∧
    exec .dex s = .next { s with
      x := s.x - 1
      p := { s.p with z := s.x - 1 == 0, n := (s.x - 1).getLsbD 7 }
      pc := s.pc + 1 } ∧
    exec .dey s = .next { s with
      y := s.y - 1
      p := { s.p with z := s.y - 1 == 0, n := (s.y - 1).getLsbD 7 }
      pc := s.pc + 1 }) ∧
  encodings .INC = [(.zp, 0xE6, .fixed 5), (.abs, 0xEE, .fixed 6), (.zpX, 0xF6, .fixed 6), (.absX, 0xFE, .fixed 7)] ∧
  encodings .DEC = [(.zp, 0xC6, .fixed 5), (.abs, 0xCE, .fixed 6), (.zpX, 0xD6, .fixed 6), (.absX, 0xDE, .fixed 7)] ∧
  encodings .INX = [(.implicit, 0xE8, .fixed 2)] ∧
  encodings .INY = [(.implicit, 0xC8, .fixed 2)] ∧
  encodings .DEX = [(.implicit, 0xCA, .fixed 2)] ∧
  encodings .DEY = [(.implicit, 0x88, .fixed 2)]

/-- The eight branches go to PC0 + 2 + sext(b1) on their condition, else to PC0 + 2, and change nothing else. States
R221, R222, R223, R224, R225, R226, R227, R228. -/
def Obligations.BranchesMoveOnlyPC : Prop :=
  (∀ (b : Byte) (s : State),
    exec (.bcc b) s = .next { s with pc := if s.p.c = false then s.pc + 2 + b.signExtend 16 else s.pc + 2 } ∧
    exec (.bcs b) s = .next { s with pc := if s.p.c = true then s.pc + 2 + b.signExtend 16 else s.pc + 2 } ∧
    exec (.beq b) s = .next { s with pc := if s.p.z = true then s.pc + 2 + b.signExtend 16 else s.pc + 2 } ∧
    exec (.bmi b) s = .next { s with pc := if s.p.n = true then s.pc + 2 + b.signExtend 16 else s.pc + 2 } ∧
    exec (.bne b) s = .next { s with pc := if s.p.z = false then s.pc + 2 + b.signExtend 16 else s.pc + 2 } ∧
    exec (.bpl b) s = .next { s with pc := if s.p.n = false then s.pc + 2 + b.signExtend 16 else s.pc + 2 } ∧
    exec (.bvc b) s = .next { s with pc := if s.p.v = false then s.pc + 2 + b.signExtend 16 else s.pc + 2 } ∧
    exec (.bvs b) s = .next { s with pc := if s.p.v = true then s.pc + 2 + b.signExtend 16 else s.pc + 2 }) ∧
  encodings .BCC = [(.relative, 0x90, .branch)] ∧
  encodings .BCS = [(.relative, 0xB0, .branch)] ∧
  encodings .BEQ = [(.relative, 0xF0, .branch)] ∧
  encodings .BMI = [(.relative, 0x30, .branch)] ∧
  encodings .BNE = [(.relative, 0xD0, .branch)] ∧
  encodings .BPL = [(.relative, 0x10, .branch)] ∧
  encodings .BVC = [(.relative, 0x50, .branch)] ∧
  encodings .BVS = [(.relative, 0x70, .branch)]

/-- JMP a sets PC to its operand; JMP (a) to the word at a, its high byte by JMP_IND_PAGE_WRAP at a page end. States
R229, R90. -/
def Obligations.JumpsSetPC : Prop :=
  (∀ (a : Addr) (s : State),
    exec (.jmpAbs a) s = .next { s with pc := a } ∧
    exec (.jmpInd a) s = .next { s with
      pc := join (s.read (if lo a = 0xFF ∧ s.params.jmpIndPageWrap = true then join (hi a) 0x00 else a + 1))
        (s.read a) }) ∧
  (∀ (a : Addr) (s : State),
    (s.params.jmpIndPageWrap = false → s.readInd16 a = join (s.read (a + 1)) (s.read a)) ∧
    (s.params.jmpIndPageWrap = true → s.readInd16 a = join (s.read (join (hi a) (lo a + 1))) (s.read a))) ∧
  encodings .JMP = [(.abs, 0x4C, .fixed 3), (.indirect, 0x6C, .fixed 5)]

/-- JSR pushes PC0 + 2, high byte first, and jumps; RTS pulls a word and goes to it plus 1; frames stated. States
R230, R231. -/
def Obligations.CallAndReturnUseTheStack : Prop :=
  (∀ (a : Addr) (s : State), ∃ t, exec (.jsrAbs a) s = .next t ∧
    { t with mem := s.mem } = { s with sp := s.sp - 2, pc := a } ∧
    (s.writable (join 0x01 s.sp) = true → t.read (join 0x01 s.sp) = hi (s.pc + 2)) ∧
    (s.writable (join 0x01 (s.sp - 1)) = true → t.read (join 0x01 (s.sp - 1)) = lo (s.pc + 2)) ∧
    ∀ k, k ≠ join 0x01 s.sp → k ≠ join 0x01 (s.sp - 1) → t.read k = s.read k) ∧
  (∀ s : State, exec .rts s = .next { s with
    sp := s.sp + 2
    pc := join (s.read (join 0x01 (s.sp + 2))) (s.read (join 0x01 (s.sp + 1))) + 1 }) ∧
  encodings .JSR = [(.abs, 0x20, .fixed 6)] ∧
  encodings .RTS = [(.implicit, 0x60, .fixed 6)]

/-- CLC, CLD, CLI, CLV, SEC, SED, SEI write their one flag and PC, nothing else; CLI and SEI delay I. States R250,
R251, R252, R253, R254, R255, R256. -/
def Obligations.FlagInstructionsWriteOneFlag : Prop :=
  (∀ s : State,
    exec .clc s = .next { s with p := { s.p with c := false }, pc := s.pc + 1 } ∧
    exec .cld s = .next { s with p := { s.p with d := false }, pc := s.pc + 1 } ∧
    exec .cli s = .next { s with p := { s.p with i := false }, pc := s.pc + 1 } ∧
    exec .clv s = .next { s with p := { s.p with v := false }, pc := s.pc + 1 } ∧
    exec .sec s = .next { s with p := { s.p with c := true }, pc := s.pc + 1 } ∧
    exec .sed s = .next { s with p := { s.p with d := true }, pc := s.pc + 1 } ∧
    exec .sei s = .next { s with p := { s.p with i := true }, pc := s.pc + 1 }) ∧
  (∀ s t : State, iForPollAfter .cli s t = s.p.i ∧ iForPollAfter .sei s t = s.p.i) ∧
  encodings .CLC = [(.implicit, 0x18, .fixed 2)] ∧
  encodings .CLD = [(.implicit, 0xD8, .fixed 2)] ∧
  encodings .CLI = [(.implicit, 0x58, .fixed 2)] ∧
  encodings .CLV = [(.implicit, 0xB8, .fixed 2)] ∧
  encodings .SEC = [(.implicit, 0x38, .fixed 2)] ∧
  encodings .SED = [(.implicit, 0xF8, .fixed 2)] ∧
  encodings .SEI = [(.implicit, 0x78, .fixed 2)]

/-- All 28 NOP cells complete with PC past the instruction and nothing else changed. From R257, R272, R273, R270,
46_undocumented.md Aliases of documented instructions, 45_flags_system.md No operation. That $82, $C2, $E2 never
lock up is log 19. -/
def Obligations.NopsOnlyAdvancePC : Prop :=
  (∀ (i : Instr) (s : State), i.mnemonic = .NOP → (i ≠ .nop → s.params.undocPolicy ≠ .refuseAll) →
    exec i s = .next { s with pc := s.pc + BitVec.ofNat 16 i.length }) ∧
  encodings .NOP = [(.zp, 0x04, .fixed 3), (.abs, 0x0C, .fixed 4), (.zpX, 0x14, .fixed 4),
      (.implicit, 0x1A, .fixed 2), (.absX, 0x1C, .plus 4), (.zpX, 0x34, .fixed 4), (.implicit, 0x3A, .fixed 2),
      (.absX, 0x3C, .plus 4), (.zp, 0x44, .fixed 3), (.zpX, 0x54, .fixed 4), (.implicit, 0x5A, .fixed 2),
      (.absX, 0x5C, .plus 4), (.zp, 0x64, .fixed 3), (.zpX, 0x74, .fixed 4), (.implicit, 0x7A, .fixed 2),
      (.absX, 0x7C, .plus 4), (.imm, 0x80, .fixed 2), (.imm, 0x82, .fixed 2), (.imm, 0x89, .fixed 2),
      (.imm, 0xC2, .fixed 2), (.zpX, 0xD4, .fixed 4), (.implicit, 0xDA, .fixed 2), (.absX, 0xDC, .plus 4),
      (.imm, 0xE2, .fixed 2), (.implicit, 0xEA, .fixed 2), (.zpX, 0xF4, .fixed 4), (.implicit, 0xFA, .fixed 2),
      (.absX, 0xFC, .plus 4)]

/-- BRK pushes PC0 + 2 and P with B = 1, sets I, and takes PC from $FFFE; frame stated. States R260, R331. -/
def Obligations.BrkEntersTheHandler : Prop :=
  (∀ s : State, ∃ t, exec .brk s = .next t ∧
    { t with mem := s.mem } =
      { s with sp := s.sp - 3, p := { s.p with i := true }, pc := join (s.read 0xFFFF) (s.read 0xFFFE) } ∧
    (s.writable (join 0x01 s.sp) = true → t.read (join 0x01 s.sp) = hi (s.pc + 2)) ∧
    (s.writable (join 0x01 (s.sp - 1)) = true → t.read (join 0x01 (s.sp - 1)) = lo (s.pc + 2)) ∧
    (s.writable (join 0x01 (s.sp - 2)) = true → t.read (join 0x01 (s.sp - 2)) = s.p.toByte true) ∧
    ∀ k, k ≠ join 0x01 s.sp → k ≠ join 0x01 (s.sp - 1) → k ≠ join 0x01 (s.sp - 2) → t.read k = s.read k) ∧
  (∀ s : State, exec .brk s = .next (s.enter (s.pc + 2) true 0xFFFE)) ∧
  encodings .BRK = [(.implicit, 0x00, .fixed 7)]

/-- RTI pulls P, then PC, adds nothing, raises S by 3, changes nothing else. States R261. -/
def Obligations.RtiRestoresFlagsAndPC : Prop :=
  (∀ s : State, exec .rti s = .next { s with
    sp := s.sp + 3
    p := { c := (s.read (join 0x01 (s.sp + 1))).getLsbD 0, z := (s.read (join 0x01 (s.sp + 1))).getLsbD 1,
           i := (s.read (join 0x01 (s.sp + 1))).getLsbD 2, d := (s.read (join 0x01 (s.sp + 1))).getLsbD 3,
           v := (s.read (join 0x01 (s.sp + 1))).getLsbD 6, n := (s.read (join 0x01 (s.sp + 1))).getLsbD 7 }
    pc := join (s.read (join 0x01 (s.sp + 3))) (s.read (join 0x01 (s.sp + 2))) }) ∧
  (∀ s t : State, iForPollAfter .rti s t = t.p.i) ∧
  encodings .RTI = [(.implicit, 0x40, .fixed 6)]

/-- All 12 STP cells set stopped and change nothing else; a stopped machine steps only on a reset request. From
R271, R270, R333, R370, 46_undocumented.md Halt. The model's form: the fault stuck as the form of "no further
step" is log 10. -/
def Obligations.StpStopsTheMachineUntilReset : Prop :=
  (∀ (i : Instr) (s : State), i.mnemonic = .STP → s.params.undocPolicy ≠ .refuseAll →
    exec i s = .next { s with stopped := true }) ∧
  (∀ s : State, s.stopped = true → s.resetRequested = false → step s = .fault .stuck) ∧
  (∀ s : State, s.resetRequested = true → ∃ t, step s = .next t ∧ t.stopped = false) ∧
  encodings .STP = [(.implicit, 0x02, .never), (.implicit, 0x12, .never), (.implicit, 0x22, .never),
      (.implicit, 0x32, .never), (.implicit, 0x42, .never), (.implicit, 0x52, .never), (.implicit, 0x62, .never),
      (.implicit, 0x72, .never), (.implicit, 0x92, .never), (.implicit, 0xB2, .never), (.implicit, 0xD2, .never),
      (.implicit, 0xF2, .never)]

/-- SLO, RLA, SRE: the memory byte is shifted into C, A is combined with it, Z and N from A; frames stated. States
R275, R276, R277. -/
def Obligations.ShiftAndCombineCells : Prop :=
  (∀ (i : Instr) (o : MemOperand) (s : State), i.mnemonic = .SLO → i.operand = .mem o →
    s.params.undocPolicy ≠ .refuseAll →
    let v := s.read (o.ea s)
    let r := v <<< 1
    let a := s.a ||| r
    ∃ t, exec i s = .next t ∧
      { t with mem := s.mem } = { s with
        a := a
        p := { s.p with c := v.getLsbD 7, z := a == 0, n := a.getLsbD 7 }
        pc := s.pc + BitVec.ofNat 16 i.length } ∧
      (s.writable (o.ea s) = true → t.read (o.ea s) = r) ∧ ∀ k, k ≠ o.ea s → t.read k = s.read k) ∧
  (∀ (i : Instr) (o : MemOperand) (s : State), i.mnemonic = .RLA → i.operand = .mem o →
    s.params.undocPolicy ≠ .refuseAll →
    let v := s.read (o.ea s)
    let r := (v <<< 1) ||| (if s.p.c then 0x01 else 0x00)
    let a := s.a &&& r
    ∃ t, exec i s = .next t ∧
      { t with mem := s.mem } = { s with
        a := a
        p := { s.p with c := v.getLsbD 7, z := a == 0, n := a.getLsbD 7 }
        pc := s.pc + BitVec.ofNat 16 i.length } ∧
      (s.writable (o.ea s) = true → t.read (o.ea s) = r) ∧ ∀ k, k ≠ o.ea s → t.read k = s.read k) ∧
  (∀ (i : Instr) (o : MemOperand) (s : State), i.mnemonic = .SRE → i.operand = .mem o →
    s.params.undocPolicy ≠ .refuseAll →
    let v := s.read (o.ea s)
    let r := v >>> 1
    let a := s.a ^^^ r
    ∃ t, exec i s = .next t ∧
      { t with mem := s.mem } = { s with
        a := a
        p := { s.p with c := v.getLsbD 0, z := a == 0, n := a.getLsbD 7 }
        pc := s.pc + BitVec.ofNat 16 i.length } ∧
      (s.writable (o.ea s) = true → t.read (o.ea s) = r) ∧ ∀ k, k ≠ o.ea s → t.read k = s.read k) ∧
  encodings .SLO = [(.indX, 0x03, .fixed 8), (.zp, 0x07, .fixed 5), (.abs, 0x0F, .fixed 6),
      (.indY, 0x13, .fixed 8), (.zpX, 0x17, .fixed 6), (.absY, 0x1B, .fixed 7), (.absX, 0x1F, .fixed 7)] ∧
  encodings .RLA = [(.indX, 0x23, .fixed 8), (.zp, 0x27, .fixed 5), (.abs, 0x2F, .fixed 6),
      (.indY, 0x33, .fixed 8), (.zpX, 0x37, .fixed 6), (.absY, 0x3B, .fixed 7), (.absX, 0x3F, .fixed 7)] ∧
  encodings .SRE = [(.indX, 0x43, .fixed 8), (.zp, 0x47, .fixed 5), (.abs, 0x4F, .fixed 6),
      (.indY, 0x53, .fixed 8), (.zpX, 0x57, .fixed 6), (.absY, 0x5B, .fixed 7), (.absX, 0x5F, .fixed 7)]

/-- RRA is ROR on memory then ADC with that carry, ISC is INC on memory then SBC, by D and DECIMAL_MODE; frames
stated. From R278, R282, R270, R171, 46_undocumented.md Read-modify-write combined with an accumulator
operation. What happens under DECIMAL_MODE = refuse is R171. -/
def Obligations.RotateThenAddAndIncrementThenSubtract : Prop :=
  (∀ (i : Instr) (o : MemOperand) (s : State), i.mnemonic = .RRA → i.operand = .mem o →
    s.params.undocPolicy ≠ .refuseAll →
    (s.p.d = false ∨ s.params.decimalMode ≠ .refuse) →
    let v := s.read (o.ea s)
    let r := (v >>> 1) ||| (if s.p.c then 0x80 else 0x00)
    ∃ q t, adcSum s.params.decimalMode s.p.d s.a r (v.getLsbD 0) = some q ∧ exec i s = .next t ∧
      { t with mem := s.mem } = { s with
        a := q.a
        p := { s.p with c := q.c, z := q.z, v := q.v, n := q.n }
        pc := s.pc + BitVec.ofNat 16 i.length } ∧
      (s.writable (o.ea s) = true → t.read (o.ea s) = r) ∧ ∀ k, k ≠ o.ea s → t.read k = s.read k) ∧
  (∀ (i : Instr) (o : MemOperand) (s : State), i.mnemonic = .ISC → i.operand = .mem o →
    s.params.undocPolicy ≠ .refuseAll →
    (s.p.d = false ∨ s.params.decimalMode ≠ .refuse) →
    let v := s.read (o.ea s)
    let r := v + 1
    ∃ q t, sbcSum s.params.decimalMode s.p.d s.a r s.p.c = some q ∧ exec i s = .next t ∧
      { t with mem := s.mem } = { s with
        a := q.a
        p := { s.p with c := q.c, z := q.z, v := q.v, n := q.n }
        pc := s.pc + BitVec.ofNat 16 i.length } ∧
      (s.writable (o.ea s) = true → t.read (o.ea s) = r) ∧ ∀ k, k ≠ o.ea s → t.read k = s.read k) ∧
  (∀ (i : Instr) (s : State), i.mnemonic = .RRA ∨ i.mnemonic = .ISC → s.params.undocPolicy ≠ .refuseAll →
    s.p.d = true → s.params.decimalMode = .refuse → exec i s = .refused .decimalModeRefused) ∧
  encodings .RRA = [(.indX, 0x63, .fixed 8), (.zp, 0x67, .fixed 5), (.abs, 0x6F, .fixed 6),
      (.indY, 0x73, .fixed 8), (.zpX, 0x77, .fixed 6), (.absY, 0x7B, .fixed 7), (.absX, 0x7F, .fixed 7)] ∧
  encodings .ISC = [(.indX, 0xE3, .fixed 8), (.zp, 0xE7, .fixed 5), (.abs, 0xEF, .fixed 6),
      (.indY, 0xF3, .fixed 8), (.zpX, 0xF7, .fixed 6), (.absY, 0xFB, .fixed 7), (.absX, 0xFF, .fixed 7)]

/-- DCP decrements memory and compares, SAX stores A AND X, LAX loads A and X; frames stated. States R279, R280,
R281. -/
def Obligations.DecrementCompareStoreAndLoadCells : Prop :=
  (∀ (i : Instr) (o : MemOperand) (s : State), i.mnemonic = .DCP → i.operand = .mem o →
    s.params.undocPolicy ≠ .refuseAll →
    let r := s.read (o.ea s) - 1
    ∃ t, exec i s = .next t ∧
      { t with mem := s.mem } = { s with
        p := { s.p with c := decide (r.toNat ≤ s.a.toNat), z := s.a == r, n := (s.a - r).getLsbD 7 }
        pc := s.pc + BitVec.ofNat 16 i.length } ∧
      (s.writable (o.ea s) = true → t.read (o.ea s) = r) ∧ ∀ k, k ≠ o.ea s → t.read k = s.read k) ∧
  (∀ (i : Instr) (o : MemOperand) (s : State), i.mnemonic = .SAX → i.operand = .mem o →
    s.params.undocPolicy ≠ .refuseAll →
    ∃ t, exec i s = .next t ∧ { t with mem := s.mem } = { s with pc := s.pc + BitVec.ofNat 16 i.length } ∧
      (s.writable (o.ea s) = true → t.read (o.ea s) = s.a &&& s.x) ∧ ∀ k, k ≠ o.ea s → t.read k = s.read k) ∧
  (∀ (i : Instr) (o : MemOperand) (s : State), i.mnemonic = .LAX → i.operand = .mem o → (∀ b, o ≠ .imm b) →
    s.params.undocPolicy ≠ .refuseAll →
    exec i s = .next { s with
      a := o.value s
      x := o.value s
      p := { s.p with z := o.value s == 0, n := (o.value s).getLsbD 7 }
      pc := s.pc + BitVec.ofNat 16 i.length }) ∧
  encodings .DCP = [(.indX, 0xC3, .fixed 8), (.zp, 0xC7, .fixed 5), (.abs, 0xCF, .fixed 6),
      (.indY, 0xD3, .fixed 8), (.zpX, 0xD7, .fixed 6), (.absY, 0xDB, .fixed 7), (.absX, 0xDF, .fixed 7)] ∧
  encodings .SAX = [(.indX, 0x83, .fixed 6), (.zp, 0x87, .fixed 3), (.abs, 0x8F, .fixed 4), (.zpY, 0x97, .fixed 4)] ∧
  encodings .LAX = [(.indX, 0xA3, .fixed 6), (.zp, 0xA7, .fixed 3), (.imm, 0xAB, .fixed 2), (.abs, 0xAF, .fixed 4),
      (.indY, 0xB3, .plus 5), (.zpY, 0xB7, .fixed 4), (.absY, 0xBF, .plus 4)]

/-- ANC, ALR, AXS on an immediate byte, and LAS on M and S: results, flags and frames. States R283, R284, R286,
R287. -/
def Obligations.ImmediateCombinationsAndLas : Prop :=
  (∀ (b : Byte) (s : State), s.params.undocPolicy ≠ .refuseAll →
    let r := s.a &&& b
    exec (.ancImm0B b) s = .next { s with
      a := r, p := { s.p with c := r.getLsbD 7, z := r == 0, n := r.getLsbD 7 }, pc := s.pc + 2 } ∧
    exec (.ancImm2B b) s = .next { s with
      a := r, p := { s.p with c := r.getLsbD 7, z := r == 0, n := r.getLsbD 7 }, pc := s.pc + 2 } ∧
    exec (.alrImm b) s = .next { s with
      a := r >>> 1, p := { s.p with c := r.getLsbD 0, z := r >>> 1 == 0, n := (r >>> 1).getLsbD 7 }, pc := s.pc + 2 }) ∧
  (∀ (b : Byte) (s : State), s.params.undocPolicy ≠ .refuseAll →
    let r := s.a &&& s.x
    exec (.axsImm b) s = .next { s with
      x := r - b
      p := { s.p with c := decide (b.toNat ≤ r.toNat), z := r - b == 0, n := (r - b).getLsbD 7 }
      pc := s.pc + 2 }) ∧
  (∀ (a : Addr) (s : State), s.params.undocPolicy ≠ .refuseAll →
    let r := s.read (a + s.y.setWidth 16) &&& s.sp
    exec (.lasAbsY a) s = .next { s with
      a := r, x := r, sp := r, p := { s.p with z := r == 0, n := r.getLsbD 7 }, pc := s.pc + 3 }) ∧
  encodings .ANC = [(.imm, 0x0B, .fixed 2), (.imm, 0x2B, .fixed 2)] ∧
  encodings .ALR = [(.imm, 0x4B, .fixed 2)] ∧
  encodings .AXS = [(.imm, 0xCB, .fixed 2)] ∧
  encodings .LAS = [(.absY, 0xBB, .plus 4)]

/-- ARR with D = 0 or in binary mode: AND, ROR, C from bit 6, V from bits 6 and 5; otherwise it refuses. From R285,
R270, R171, 46_undocumented.md Immediate-mode combinations. The form of its two refusals is the model's (log
17). -/
def Obligations.ArrRotatesAndRefusesDecimal : Prop :=
  (∀ (b : Byte) (s : State), s.params.undocPolicy ≠ .refuseAll →
    s.p.d = false ∨ s.params.decimalMode = .binary →
    let r := ((s.a &&& b) >>> 1) ||| (if s.p.c then 0x80 else 0x00)
    exec (.arrImm b) s = .next { s with
      a := r
      p := { s.p with c := r.getLsbD 6, z := r == 0, v := r.getLsbD 6 ^^ r.getLsbD 5, n := r.getLsbD 7 }
      pc := s.pc + 2 }) ∧
  (∀ (b : Byte) (s : State), s.params.undocPolicy ≠ .refuseAll → s.p.d = true →
    (s.params.decimalMode = .nmosBcd → exec (.arrImm b) s = .refused .arrDecimal) ∧
    (s.params.decimalMode = .refuse → exec (.arrImm b) s = .refused .decimalModeRefused)) ∧
  encodings .ARR = [(.imm, 0x6B, .fixed 2)]

/-- XAA and LAX #i complete, with the 8-bit parameter MAGIC inside and Z, N from the result; frames stated. States
R288, R289. -/
def Obligations.MagicCellsCombineWithTheConstant : Prop :=
  (∀ (b : Byte) (s : State), s.params.undocPolicy = .allWithMagic →
    let r := (s.a ||| s.params.magic) &&& s.x &&& b
    let q := (s.a ||| s.params.magic) &&& b
    exec (.xaaImm b) s = .next { s with
      a := r, p := { s.p with z := r == 0, n := r.getLsbD 7 }, pc := s.pc + 2 } ∧
    exec (.laxImm b) s = .next { s with
      a := q, x := q, p := { s.p with z := q == 0, n := q.getLsbD 7 }, pc := s.pc + 2 } ∧
    (s.a = 0xFF → r = s.x &&& b) ∧ (b = 0x00 → r = 0x00)) ∧
  (∀ (k : Settings) (m : Byte), k.magic = some m → (settingsParams k).magic = m) ∧
  (Instr.opcode (.laxImm 0) = 0xAB ∧ cycleCountOf 0xAB = .fixed 2) ∧
  encodings .XAA = [(.imm, 0x8B, .fixed 2)]

/-- AHX, TAS, SHY, SHX store their value AND the high byte of the base plus 1, and refuse a page crossing. From
R290, R291, R292, R293, R270, 46_undocumented.md Unstable cells. The model's choice: the term hi(base) + 1 is
always there (log 20), and the form of the refusal is log 18. -/
def Obligations.UnstableStoresStayInTheirPage : Prop :=
  (∀ (b : Byte) (s : State), s.params.undocPolicy = .allWithMagic →
    let ea := s.readZP16 b + s.y.setWidth 16
    let base := s.readZP16 b
    let v := s.a &&& s.x
    (hi base = hi ea → ∃ t, exec (.ahxIndY b) s = .next t ∧
      { t with mem := s.mem } = { s with pc := s.pc + 2 } ∧
      (s.writable ea = true → t.read ea = v &&& (hi base + 1)) ∧ ∀ k, k ≠ ea → t.read k = s.read k) ∧
    (hi base ≠ hi ea → exec (.ahxIndY b) s = .refused .unstableStoreCrossesPage)) ∧
  (∀ (a : Addr) (s : State), s.params.undocPolicy = .allWithMagic →
    let ea := a + s.y.setWidth 16
    let base := a
    let v := s.a &&& s.x
    (hi base = hi ea → ∃ t, exec (.ahxAbsY a) s = .next t ∧
      { t with mem := s.mem } = { s with pc := s.pc + 3 } ∧
      (s.writable ea = true → t.read ea = v &&& (hi base + 1)) ∧ ∀ k, k ≠ ea → t.read k = s.read k) ∧
    (hi base ≠ hi ea → exec (.ahxAbsY a) s = .refused .unstableStoreCrossesPage)) ∧
  (∀ (a : Addr) (s : State), s.params.undocPolicy = .allWithMagic →
    let ea := a + s.y.setWidth 16
    let base := a
    let v := s.a &&& s.x
    (hi base = hi ea → ∃ t, exec (.tasAbsY a) s = .next t ∧
      { t with mem := s.mem } = { s with sp := s.a &&& s.x, pc := s.pc + 3 } ∧
      (s.writable ea = true → t.read ea = v &&& (hi base + 1)) ∧ ∀ k, k ≠ ea → t.read k = s.read k) ∧
    (hi base ≠ hi ea → exec (.tasAbsY a) s = .refused .unstableStoreCrossesPage)) ∧
  (∀ (a : Addr) (s : State), s.params.undocPolicy = .allWithMagic →
    let ea := a + s.x.setWidth 16
    let base := a
    let v := s.y
    (hi base = hi ea → ∃ t, exec (.shyAbsX a) s = .next t ∧
      { t with mem := s.mem } = { s with pc := s.pc + 3 } ∧
      (s.writable ea = true → t.read ea = v &&& (hi base + 1)) ∧ ∀ k, k ≠ ea → t.read k = s.read k) ∧
    (hi base ≠ hi ea → exec (.shyAbsX a) s = .refused .unstableStoreCrossesPage)) ∧
  (∀ (a : Addr) (s : State), s.params.undocPolicy = .allWithMagic →
    let ea := a + s.y.setWidth 16
    let base := a
    let v := s.x
    (hi base = hi ea → ∃ t, exec (.shxAbsY a) s = .next t ∧
      { t with mem := s.mem } = { s with pc := s.pc + 3 } ∧
      (s.writable ea = true → t.read ea = v &&& (hi base + 1)) ∧ ∀ k, k ≠ ea → t.read k = s.read k) ∧
    (hi base ≠ hi ea → exec (.shxAbsY a) s = .refused .unstableStoreCrossesPage)) ∧
  encodings .AHX = [(.indY, 0x93, .fixed 6), (.absY, 0x9F, .fixed 5)] ∧
  encodings .TAS = [(.absY, 0x9B, .fixed 5)] ∧
  encodings .SHY = [(.absX, 0x9C, .fixed 5)] ∧
  encodings .SHX = [(.absY, 0x9E, .fixed 5)]

/-- The effective address, base and page crossing of the nine operand forms, and the operand byte. States R86, R88,
R91, R92, R93, R94, R95, R96. -/
def Obligations.AddressingModesGiveTheEffectiveAddress : Prop :=
  ∀ (b : Byte) (a : Addr) (s : State),
    (MemOperand.ea (.imm b) s = s.pc + 1 ∧ MemOperand.value (.imm b) s = b) ∧
    MemOperand.ea (.zp b) s = join 0x00 b ∧
    MemOperand.ea (.zpX b) s = join 0x00 (b + s.x) ∧
    MemOperand.ea (.zpY b) s = join 0x00 (b + s.y) ∧
    MemOperand.ea (.abs a) s = a ∧
    (MemOperand.base (.absX a) s = a ∧ MemOperand.ea (.absX a) s = a + join 0x00 s.x) ∧
    (MemOperand.base (.absY a) s = a ∧ MemOperand.ea (.absY a) s = a + join 0x00 s.y) ∧
    MemOperand.ea (.indX b) s = join (s.read (join 0x00 (b + s.x + 1))) (s.read (join 0x00 (b + s.x))) ∧
    MemOperand.base (.indY b) s = join (s.read (join 0x00 (b + 1))) (s.read (join 0x00 b)) ∧
    MemOperand.ea (.indY b) s = join (s.read (join 0x00 (b + 1))) (s.read (join 0x00 b)) + join 0x00 s.y ∧
    (∀ o : MemOperand, (o.crossed s = true ↔ hi (o.base s) ≠ hi (o.ea s)) ∧
      ((∀ b', o ≠ .imm b') → o.value s = s.read (o.ea s)))

/-- A fetched immediate instruction carries as operand the byte at PC0 + 1, which is its effective address. States
R85. -/
def Obligations.ImmediateOperandIsTheFetchedByte : Prop :=
  ∀ (s : State) (b : Byte), s.fetch.operand = .mem (.imm b) →
    b = s.read (MemOperand.ea (.imm b) s) ∧ MemOperand.ea (.imm b) s = s.pc + 1

/-- RAM reads back the last byte written, a write changes that byte only; ROM, devices and empty addresses by the
platform. From R7, R64, R66, 92_eei_decisions.md D12, 20_memory.md Access widths, atomicity, side effects (C3).
The model's choices: what a write and a read do where no RAM lies is log 23, the list of regions log 1. -/
def Obligations.MemoryKeepsWhatWasWritten : Prop :=
  ∀ (s : State) (a : Addr) (v w : Byte),
    (s.kindAt a = .ram → (s.write a v).read a = v ∧ ((s.write a v).write a w).read a = w) ∧
    (s.kindAt a = .ram ∨ s.kindAt a = .rom → s.read a = Memory.read s.mem a.toNat) ∧
    ((∀ k, k ≠ a → (s.write a v).read k = s.read k) ∧ { s.write a v with mem := s.mem } = s) ∧
    (s.kindAt a ≠ .ram → s.write a v = s) ∧
    (s.kindAt a = .device ∨ s.kindAt a = .nothing → s.read a = Config.openRead s.steps a) ∧
    ((s.writable a = true ↔ s.kindAt a = .ram) ∧ (s.readable a = true ↔ s.kindAt a = .ram ∨ s.kindAt a = .rom)) ∧
    (s.settings.platform = [] → s.kindAt a = .ram) ∧
    (∀ (r : Region) (rs : List Region), s.settings.platform = r :: rs → s.kindAt a =
      if r.first.toNat ≤ a.toNat ∧ a.toNat ≤ r.last.toNat then r.kind else platformKind rs a)

/-- Push, Pull, Push16, Pull16: the byte and word forms, and the wrap of S inside the stack page. States R57, R58,
R59, R60, R61. -/
def Obligations.StackPrimitivesWrapInPageOne : Prop :=
  ∀ (s : State) (v : Byte) (w : Addr),
    (s.push v = (s.write (join 0x01 s.sp) v).setSp (s.sp - 1)) ∧
    (s.top = s.read (join 0x01 (s.sp + 1)) ∧ s.drop = { s with sp := s.sp + 1 }) ∧
    (s.push16 w = (s.push (hi w)).push (lo w) ∧
      (s.writable (join 0x01 (s.sp - 1)) = true → (s.push16 w).read (join 0x01 (s.sp - 1)) = lo w) ∧
      (s.writable (join 0x01 s.sp) = true → (s.push16 w).read (join 0x01 s.sp) = hi w)) ∧
    (s.top16 = join (s.read (join 0x01 (s.sp + 2))) (s.read (join 0x01 (s.sp + 1))) ∧
      s.drop16 = { s with sp := s.sp + 2 }) ∧
    (s.sp = 0x00 → (s.push v).sp = 0xFF ∧
      (s.writable 0x0100 = true → (s.push v).read 0x0100 = v ∧ (s.push16 w).read 0x0100 = hi w) ∧
      (s.writable 0x01FF = true → (s.push16 w).read 0x01FF = lo w)) ∧
    (s.sp = 0xFF → s.top = s.read 0x0100 ∧ s.drop.sp = 0x00)

/-- PByte and SetP: the bit of each flag, bit 5 set, bit 4 the B of the push, and pulling a pushed byte back. States
R37, R38. -/
def Obligations.StatusByteLayout : Prop :=
  (∀ (p : Flags) (b : Bool),
    (p.toByte b).toNat = p.n.toNat * 128 + p.v.toNat * 64 + 32 + b.toNat * 16 + p.d.toNat * 8 + p.i.toNat * 4
      + p.z.toNat * 2 + p.c.toNat ∧
    Flags.ofByte (p.toByte b) = p) ∧
  (∀ (v : Byte) (b : Bool),
    Flags.ofByte v =
      { c := v.getLsbD 0, z := v.getLsbD 1, i := v.getLsbD 2, d := v.getLsbD 3, v := v.getLsbD 6, n := v.getLsbD 7 } ∧
    (Flags.ofByte v).toByte b = (v &&& 0xCF) ||| 0x20 ||| (if b then 0x10 else 0x00))

/-- Enter(ret, b, vec) pushes ret and P as it was, sets I, loads PC from the vector, and changes nothing else.
States R338. -/
def Obligations.InterruptEntrySequence : Prop :=
  ∀ (s : State) (ret : Addr) (b : Bool) (vec : Addr), vec = 0xFFFA ∨ vec = 0xFFFC ∨ vec = 0xFFFE →
    let t := s.enter ret b vec
    { t with mem := s.mem } =
      { s with sp := s.sp - 3, p := { s.p with i := true }, pc := join (s.read (vec + 1)) (s.read vec) } ∧
    (s.writable (join 0x01 s.sp) = true → t.read (join 0x01 s.sp) = hi ret) ∧
    (s.writable (join 0x01 (s.sp - 1)) = true → t.read (join 0x01 (s.sp - 1)) = lo ret) ∧
    (s.writable (join 0x01 (s.sp - 2)) = true → t.read (join 0x01 (s.sp - 2)) = s.p.toByte b) ∧
    (∀ k, k ≠ join 0x01 s.sp → k ≠ join 0x01 (s.sp - 1) → k ≠ join 0x01 (s.sp - 2) → t.read k = s.read k) ∧
    (s.writable (join 0x01 s.sp) = true → s.writable (join 0x01 (s.sp - 1)) = true →
      s.writable (join 0x01 (s.sp - 2)) = true → exec .rti t = .next { s with mem := t.mem, pc := ret }) ∧
    (s.takeNmi.cycles = s.cycles + 7 ∧ s.takeIrq.cycles = s.cycles + 7 ∧ cyclesTaken .brk s = 7)

/-- A step: reset first, then no step if stopped, then NMI, then an unmasked IRQ, then the instruction. From R333,
R334, R335, R337, 60_exceptions.md Sources and routing (G2), 60_exceptions.md Priority (G3). The model's form:
the fault stuck as the form of "there is no step" is log 10, the input taken at the boundary is log 9, and the
count of steps log 23. -/
def Obligations.StepFollowsTheOrderOfEvents : Prop :=
  ∀ s : State,
    let t := s.takeInput
    (s.resetRequested = true → step s = .next t.resetStep) ∧
    (s.resetRequested = false → t.stopped = true → step s = .fault .stuck) ∧
    (s.resetRequested = false → t.stopped = false → t.nmiPending = true →
      ∃ u, u = ({ t with nmiPending := false } : State).enter t.pc false 0xFFFA ∧
        step s = .next { u with iForPoll := true, steps := t.steps + 1, cycles := t.cycles + 7 }) ∧
    (s.resetRequested = false → t.stopped = false → t.nmiPending = false → t.irqLine = true → t.iForPoll = false →
      ∃ u, u = t.enter t.pc false 0xFFFE ∧
        step s = .next { u with iForPoll := true, steps := t.steps + 1, cycles := t.cycles + 7 }) ∧
    (s.resetRequested = false → t.stopped = false → t.nmiPending = false → t.irqLine = false ∨ t.iForPoll = true →
      ∀ u, exec t.fetch t = .next u → step s = .next { u with
        iForPoll := if t.fetch.opcode ∈ [0x58, 0x78, 0x28] then t.p.i else u.p.i
        steps := u.steps + 1
        cycles := u.cycles + cyclesTaken t.fetch t })

/-- The input of a step boundary sets the IRQ level, latches an NMI edge, and is used once (model, log 9). From
R332, R39, 60_exceptions.md Sources and routing (G2). -/
def Obligations.EnvironmentInputIsTakenAtTheBoundary : Prop :=
  ∀ (s : State) (e : StepInput) (rest : List StepInput),
    (s.inputs = [] → s.takeInput = s ∧ s.resetRequested = false) ∧
    (s.inputs = e :: rest → s.resetRequested = e.reset ∧
      s.takeInput = { s with inputs := rest, irqLine := e.irqLine, nmiPending := s.nmiPending || e.nmiEdge })

/-- With nothing pending, a step is exec of the instruction decoded from the bytes at PC, then i_for_poll and
cycles. From R333, R69, R80, 60_exceptions.md Sources and routing (G2). -/
def Obligations.StepRunsTheDecodedInstruction : Prop :=
  ∀ (s : State) (i : Instr) (rest : List Byte),
    let t := s.takeInput
    s.resetRequested = false → t.stopped = false → t.nmiPending = false → (t.irqLine = false ∨ t.iForPoll = true) →
    decode [t.read t.pc, t.read (t.pc + 1), t.read (t.pc + 2)] = .ok (i, rest) → i.wellFormed = true →
    (∀ u, exec i t = .next u → step s = .next { u with
      iForPoll := iForPollAfter i t u, steps := u.steps + 1, cycles := u.cycles + cyclesTaken i t }) ∧
    (∀ e, exec i t = .refused e → step s = .refused e) ∧ (∀ e, exec i t = .fault e → step s = .fault e)

/-- After CLI, SEI, PLP the next IRQ decision uses the I of before; after every other instruction the I it left.
States R336. -/
def Obligations.DelayedInterruptDisable : Prop :=
  (∀ (i : Instr) (s t : State),
    (i.mnemonic = .CLI ∨ i.mnemonic = .SEI ∨ i.mnemonic = .PLP → (finishStep i s t).iForPoll = s.p.i) ∧
    (i.mnemonic ≠ .CLI → i.mnemonic ≠ .SEI → i.mnemonic ≠ .PLP → (finishStep i s t).iForPoll = t.p.i)) ∧
  (∀ s t : State, exec .brk s = .next t → (finishStep .brk s t).iForPoll = true) ∧
  (∀ s : State, s.inputs = [] → s.stopped = false → s.nmiPending = false → s.irqLine = true → s.iForPoll = true →
    s.p.i = true → s.fetch = .cli →
    ∃ t, step s = .next t ∧ t.p.i = false ∧ t.irqLine = true ∧ step t = runInstr t.fetch t ∧
      ∀ u, step t = .next u → u.stopped = false → u.iForPoll = false → step u = .next u.takeIrq) ∧
  (∀ s : State, s.inputs = [] → s.stopped = false → s.nmiPending = false → s.irqLine = true → s.iForPoll = true →
    s.p.i = false → s.fetch = .sei →
    ∃ t, step s = .next t ∧ t.p.i = true ∧ step t = .next t.takeIrq ∧
      (t.writable (join 0x01 (t.sp - 2)) = true → t.takeIrq.read (join 0x01 (t.sp - 2)) = t.p.toByte false)) ∧
  (∀ s : State, s.takeIrq.iForPoll = true ∧ s.takeNmi.iForPoll = true)

/-- A reset step sets I, loads PC from $FFFC, clears the latches, writes no memory; the rest is any value. From
R370, R332, R380, R7, 70_reset_and_hazards.md Reset (I1). The model's form: the line and the inputs left alone
are log 9, the 7 ghost cycles log 15, the parameters carried by the state logs 1 and 5 to 8, and one more step
counted log 23. -/
def Obligations.ResetRestoresTheControlState : Prop :=
  (∀ (s : State) (r : ResetValues),
    let t := s.takeReset r
    t.p.i = true ∧ t.pc = join (s.read 0xFFFD) (s.read 0xFFFC) ∧ t.nmiPending = false ∧ t.iForPoll = true ∧
    t.stopped = false ∧ t.mem = s.mem ∧ t.irqLine = s.irqLine ∧ t.inputs = s.inputs ∧ t.cycles = s.cycles + 7 ∧
    (t.settings = s.settings ∧ t.steps = s.steps + 1) ∧ (t.a = r.a ∧ t.x = r.x ∧ t.y = r.y ∧ t.sp = r.sp) ∧
    (t.p.c = r.c ∧ t.p.z = r.z ∧ t.p.d = r.d ∧ t.p.v = r.v ∧ t.p.n = r.n)) ∧
  (∀ s : State, s.resetRequested = true → ∃ r, step s = .next (s.takeInput.takeReset r))

/-- State.reset: I = 1, PC from the reset vector, nmi_pending = 0, i_for_poll = 1, stopped = 0. From R41,
10_state.md Reset values (I1). -/
def Obligations.ResetStateHasTheStatedValues : Prop :=
  State.reset.p.i = true ∧ State.reset.pc = join (State.reset.read 0xFFFD) (State.reset.read 0xFFFC) ∧
  State.reset.nmiPending = false ∧ State.reset.iForPoll = true ∧ State.reset.stopped = false

/-- Every step keeps memory in its canonical form, with every listed address one of the 65,536. From R50, R330,
20_memory.md Address space (B6). -/
def Obligations.EveryStepKeepsMemoryCanonical : Prop :=
  ∀ s t : State, s.Inv → step s = .next t → t.Inv

/-- The state after reset has its memory in canonical form. From R41, 10_state.md Reset values (I1). -/
def Obligations.ResetMemoryIsCanonical : Prop :=
  State.reset.Inv

/-- For every well-formed instruction, decoding its encoding gives it back and leaves the bytes after it. From R80,
R102, R98, 30_encoding.md Formats (E1). -/
def Obligations.DecodeUndoesEncode : Prop :=
  ∀ (i : Instr) (rest : List Byte), i.wellFormed = true → decode (encode i ++ rest) = .ok (i, rest)

/-- Every byte string that decodes is the encoding of what was decoded and the rest; every three bytes decode. From
R80, R81, R101, R102, 30_encoding.md Reserved, illegal and hint encodings (E4). -/
def Obligations.EncodeUndoesDecode : Prop :=
  (∀ (bs rest : List Byte) (i : Instr), decode bs = .ok (i, rest) →
    bs = encode i ++ rest ∧ bs.head? = some i.opcode ∧ (encode i).length = i.length) ∧
  (∀ op b1 b2 : Byte, ∃ i rest, decode [op, b1, b2] = .ok (i, rest))

/-- Byte strings that the spec writes out decode to the instructions it names. From R120, R121, R123, R192, R230,
R229, R225, R274, R273, R287. -/
def Obligations.WordsOfTheSpecDecode : Prop :=
  decode [0xA9, 0x80] = .ok (.ldaImm 0x80, []) ∧ decode [0xB6, 0xF0] = .ok (.ldxZpY 0xF0, []) ∧
  decode [0x91, 0x10] = .ok (.staIndY 0x10, []) ∧ decode [0x3E, 0xFF, 0x02] = .ok (.rolAbsX 0x02FF, []) ∧
  decode [0x20, 0x00, 0x03] = .ok (.jsrAbs 0x0300, []) ∧ decode [0x6C, 0x20, 0x01] = .ok (.jmpInd 0x0120, []) ∧
  decode [0xD0, 0xFB] = .ok (.bne 0xFB, []) ∧ decode [0x00] = .ok (.brk, []) ∧ decode [0x4A] = .ok (.lsrAcc, []) ∧
  decode [0xEB, 0x01] = .ok (.sbcImmEB 0x01, []) ∧ decode [0x1C, 0xFF, 0x02] = .ok (.nopAbsX1C 0x02FF, []) ∧
  decode [0xBB, 0x00, 0x03] = .ok (.lasAbsY 0x0300, [])

/-- A, X, Y and S change only under the mnemonics that the register rules name as writers. From R21, R22, R23, R24,
R270, 10_state.md General registers (B1). -/
def Obligations.OnlyTheNamedInstructionsWriteARegister : Prop :=
  ∀ (i : Instr) (s t : State), exec i s = .next t →
    (i.mnemonic ∉ [.ADC, .AND, .EOR, .LDA, .ORA, .PLA, .SBC, .TXA, .TYA, .ASL, .LSR, .ROL, .ROR, .SLO,
      .RLA, .SRE, .RRA, .LAX, .ISC, .ANC, .ALR, .ARR, .LAS, .XAA] →
      t.a = s.a) ∧
    (i.mnemonic ∉ [.LDX, .TAX, .TSX, .INX, .DEX, .LAX, .AXS, .LAS] →
      t.x = s.x) ∧
    (i.mnemonic ∉ [.LDY, .TAY, .INY, .DEY] →
      t.y = s.y) ∧
    (i.mnemonic ∉ [.TXS, .PHA, .PHP, .PLA, .PLP, .JSR, .RTS, .RTI, .BRK, .LAS, .TAS] →
      t.sp = s.sp) ∧
    (i.mnemonic ∈ [.ASL, .LSR, .ROL, .ROR] → i.operand ≠ .accumulator → t.a = s.a)

/-- Each of the six flags changes only under the mnemonics that its rule names as writers. From R30, R31, R32, R33,
R34, R35, R270, 10_state.md Flags and the status byte P (B3, B4). -/
def Obligations.OnlyTheNamedInstructionsWriteAFlag : Prop :=
  ∀ (i : Instr) (s t : State), exec i s = .next t →
    (i.mnemonic ∉ [.ADC, .SBC, .CMP, .CPX, .CPY, .ASL, .ROL, .LSR, .ROR, .CLC, .SEC, .PLP, .RTI, .SLO,
      .RLA, .SRE, .RRA, .DCP, .ISC, .ANC, .ALR, .ARR, .AXS] →
      t.p.c = s.p.c) ∧
    (i.mnemonic ∉ [.ADC, .AND, .ASL, .CMP, .CPX, .CPY, .DEC, .DEX, .DEY, .EOR, .INC, .INX, .INY, .LDA,
      .LDX, .LDY, .LSR, .ORA, .PLA, .ROL, .ROR, .SBC, .TAX, .TAY, .TSX, .TXA, .TYA, .BIT,
      .PLP, .RTI, .SLO, .RLA, .SRE, .RRA, .LAX, .DCP, .ISC, .ANC, .ALR, .ARR, .AXS, .LAS,
      .XAA] →
      t.p.z = s.p.z) ∧
    (i.mnemonic ∉ [.CLI, .SEI, .PLP, .RTI, .BRK] →
      t.p.i = s.p.i) ∧
    (i.mnemonic ∉ [.CLD, .SED, .PLP, .RTI] →
      t.p.d = s.p.d) ∧
    (i.mnemonic ∉ [.ADC, .SBC, .BIT, .CLV, .PLP, .RTI, .RRA, .ISC, .ARR] →
      t.p.v = s.p.v) ∧
    (i.mnemonic ∉ [.ADC, .AND, .ASL, .CMP, .CPX, .CPY, .DEC, .DEX, .DEY, .EOR, .INC, .INX, .INY, .LDA,
      .LDX, .LDY, .LSR, .ORA, .PLA, .ROL, .ROR, .SBC, .TAX, .TAY, .TSX, .TXA, .TYA, .BIT,
      .PLP, .RTI, .SLO, .RLA, .SRE, .RRA, .LAX, .DCP, .ISC, .ANC, .ALR, .ARR, .AXS, .LAS,
      .XAA] →
      t.p.n = s.p.n)

/-- Memory changes only under the storing mnemonics, at the effective address or in the stack page. From R51, R56,
20_memory.md Address space (B6). The last clause is the model's choice (log 23). -/
def Obligations.OnlyTheNamedInstructionsWriteMemory : Prop :=
  ∀ (i : Instr) (s t : State), exec i s = .next t →
    (i.mnemonic ∉ [.STA, .STX, .STY, .SAX, .AHX, .SHX, .SHY, .TAS, .ASL, .LSR, .ROL, .ROR,
      .INC, .DEC, .SLO, .RLA, .SRE, .RRA, .DCP, .ISC, .PHA, .PHP, .JSR, .BRK] →
      t.mem = s.mem) ∧
    (∀ o, i.operand = .mem o → i.mnemonic ≠ .JSR → ∀ k, k ≠ o.ea s → t.read k = s.read k) ∧
    (i.mnemonic ∈ [.PHA, .PHP, .JSR, .BRK] → ∀ k, hi k ≠ 0x01 → t.read k = s.read k) ∧
    (i.operand = .accumulator → t.mem = s.mem) ∧
    (∀ k, s.kindAt k ≠ .ram → t.read k = s.read k)

/-- PC goes to PC0 + length for every instruction but branches, JMP, JSR, RTS, RTI, BRK and STP. From R27, R28,
10_state.md Program counter (B2). -/
def Obligations.InstructionsAdvancePCByTheirLength : Prop :=
  ∀ (i : Instr) (s t : State), exec i s = .next t →
    (i.mnemonic ∉ [.BCC, .BCS, .BEQ, .BMI, .BNE, .BPL, .BVC, .BVS, .JMP, .JSR, .RTS, .RTI, .BRK, .STP] →
      t.pc = s.pc + BitVec.ofNat 16 i.length) ∧
    (∀ b, i.operand = .relative b →
      (branchTaken i.mnemonic s.p = true → t.pc = s.pc + 2 + b.signExtend 16) ∧
      (branchTaken i.mnemonic s.p = false → t.pc = s.pc + 2)) ∧
    (∀ a, i = .jmpAbs a ∨ i = .jsrAbs a → t.pc = a) ∧
    (∀ a, i = .jmpInd a → t.pc = s.readInd16 a) ∧
    (i = .rts → t.pc = join (s.read (join 0x01 (s.sp + 2))) (s.read (join 0x01 (s.sp + 1))) + 1) ∧
    (i = .rti → t.pc = join (s.read (join 0x01 (s.sp + 3))) (s.read (join 0x01 (s.sp + 2)))) ∧
    (i = .brk → t.pc = join (s.read 0xFFFF) (s.read 0xFFFE)) ∧
    (i.mnemonic = .STP → t.pc = s.pc)

/-- exec never faults, and refuses only what the parameters refuse, ARR with D = 1, and page-crossing AHX, TAS, SHY,
SHX. From R330, R171, R270, R285, R290, R291, R292, R293, 60_exceptions.md Causes (G1). -/
def Obligations.NoInstructionFaults : Prop :=
  ∀ (i : Instr) (s : State), (∀ f, exec i s ≠ .fault f) ∧
    (∀ e, exec i s = .refused e →
      (s.params.undocPolicy ≠ .allWithMagic ∧ e = .undocumentedCell) ∨
      (i.mnemonic ∈ [.ADC, .SBC, .RRA, .ISC, .ARR] ∧ s.p.d = true ∧ s.params.decimalMode = .refuse ∧
        e = .decimalModeRefused) ∨
      (i.mnemonic = .ARR ∧ s.p.d = true ∧ s.params.decimalMode = .nmosBcd ∧ e = .arrDecimal) ∨
      (i.mnemonic ∈ [.AHX, .TAS, .SHY, .SHX] ∧ (∃ o, i.operand = .mem o ∧ o.crossed s = true) ∧
        e = .unstableStoreCrossesPage))

/-- No instruction touches the IRQ line, the NMI latch, the inputs or the parameters; only STP sets stopped. From
R39, R332, 10_state.md Hidden state (B7). -/
def Obligations.InstructionsLeaveHiddenStateAlone : Prop :=
  ∀ (i : Instr) (s t : State), exec i s = .next t →
    t.irqLine = s.irqLine ∧ t.nmiPending = s.nmiPending ∧ t.inputs = s.inputs ∧ t.resetCount = s.resetCount ∧
    t.settings = s.settings ∧ t.steps = s.steps ∧ t.cycles = s.cycles ∧ t.iForPoll = s.iForPoll ∧
    (i.mnemonic ≠ .STP → t.stopped = s.stopped)

/-- The D flag influences only ADC, SBC, RRA, ISC, ARR and the pushes of P: elsewhere it passes through unread. From
R33, R171, 10_state.md Flags and the status byte P (B3, B4). -/
def Obligations.DecimalFlagIsReadOnlyByArithmetic : Prop :=
  ∀ (i : Instr) (s : State) (b : Bool),
    i.mnemonic ∉ [.ADC, .SBC, .RRA, .ISC, .ARR, .PHP, .BRK, .PLP, .RTI, .CLD, .SED] →
    exec i (s.setD b) = andThen (exec i s) (fun t => .next (t.setD b))

/-- RTS right after a JSR goes to the instruction after the JSR with S, flags and registers as before. From R230,
R231, R59, R60, 44_branch_jump.md Jump, call, return. -/
def Obligations.SubroutineReturnsAfterTheCall : Prop :=
  ∀ (a : Addr) (s : State), s.writable (join 0x01 s.sp) = true → s.writable (join 0x01 (s.sp - 1)) = true →
    ∃ t, andThen (exec (.jsrAbs a) s) (exec .rts) = .next t ∧
    { t with mem := s.mem } = { s with pc := s.pc + 3 } ∧
    ∀ k, k ≠ join 0x01 s.sp → k ≠ join 0x01 (s.sp - 1) → t.read k = s.read k

/-- PHP then PLP, and BRK then RTI, give back all six flags and S; RTI resumes two bytes after the BRK; nine ROL A
give back A and C. From R149, R260, R261, R340, R192, 45_flags_system.md Software interrupt and return,
43_shift_incdec.md Shifts and rotates. -/
def Obligations.SavedStatusIsRestored : Prop :=
  (∀ s : State, s.writable (join 0x01 s.sp) = true → ∃ t, andThen (exec .php s) (exec .plp) = .next t ∧
    { t with mem := s.mem } = { s with pc := s.pc + 2 } ∧ ∀ k, k ≠ join 0x01 s.sp → t.read k = s.read k) ∧
  (∀ s : State, s.writable (join 0x01 s.sp) = true → s.writable (join 0x01 (s.sp - 1)) = true →
    s.writable (join 0x01 (s.sp - 2)) = true → ∃ t, andThen (exec .brk s) (exec .rti) = .next t ∧
    { t with mem := s.mem } = { s with pc := s.pc + 2 } ∧
    ∀ k, k ≠ join 0x01 s.sp → k ≠ join 0x01 (s.sp - 1) → k ≠ join 0x01 (s.sp - 2) → t.read k = s.read k) ∧
  (∀ s : State, (List.range 9).foldl (fun r _ => andThen r (exec .rolAcc)) (.next s) = .next { s with
    p := { s.p with z := s.a == 0, n := s.a.getLsbD 7 }
    pc := s.pc + 9 })

/-- The ghost cycle count influences no step: two states that differ in it alone step alike. From R380, R343,
70_reset_and_hazards.md Instruction timing (J2). -/
def Obligations.CycleCountInfluencesNoStep : Prop :=
  ∀ (s : State) (n m : Nat),
    outcomeWithCycles m (step (s.withCycles n)) = outcomeWithCycles m (step s) ∧
    (∀ t, step s = .next t → s.cycles ≤ t.cycles ∧
      step (s.withCycles n) = .next (t.withCycles (n + (t.cycles - s.cycles))))

/-- A "+" cell costs one more on a page crossing, a branch 2, 3 or 4, every other cell its fixed count. States R381,
R382. -/
def Obligations.CycleMarksAddOnCrossings : Prop :=
  (∀ (i : Instr) (s : State) (n : Nat), cycleCountOf i.opcode = .fixed n → cyclesTaken i s = n) ∧
  (∀ (i : Instr) (s : State) (n : Nat), cycleCountOf i.opcode = .plus n →
    ∃ o, i.operand = .mem o ∧ (o.mode = .absX ∨ o.mode = .absY ∨ o.mode = .indY) ∧
      cyclesTaken i s = if hi (o.base s) = hi (o.ea s) then n else n + 1) ∧
  (∀ (i : Instr) (s : State) (b : Byte), i.operand = .relative b →
    cycleCountOf i.opcode = .branch ∧
    cyclesTaken i s =
      if branchTaken i.mnemonic s.p = false then 2
      else if hi (s.pc + 2 + b.signExtend 16) = hi (s.pc + 2) then 3 else 4)

/-- The policy table: refuse_all refuses every undocumented cell, stable_only the unstable ones, all_with_magic
none. From R270, 46_undocumented.md Policy. The model's choice: the last clause, that UNDOC_POLICY is
all_with_magic after reset, is log 7. -/
def Obligations.UndocumentedPolicyTable : Prop :=
  (∀ (i : Instr) (s : State), exec i s = .refused .undocumentedCell ↔
    (s.params.undocPolicy = .refuseAll ∧
      (i.mnemonic ∈ [.STP, .SLO, .RLA, .SRE, .RRA, .SAX, .LAX, .DCP, .ISC, .ANC, .ALR, .ARR, .XAA, .AXS, .AHX, .TAS,
          .SHY, .SHX, .LAS] ∨
        (i.mnemonic = .NOP ∧ i.opcode ≠ 0xEA) ∨ i.opcode = 0xEB)) ∨
    (s.params.undocPolicy = .stableOnly ∧ (i.mnemonic ∈ [.XAA, .AHX, .TAS, .SHY, .SHX] ∨ i.opcode = 0xAB))) ∧
  (∀ (s : State) (cl : UndocClass) (r : Result),
    (s.params.undocPolicy = .refuseAll → undocumented s cl r = .refused .undocumentedCell) ∧
    (s.params.undocPolicy = .stableOnly → cl = .unstable → undocumented s cl r = .refused .undocumentedCell) ∧
    (s.params.undocPolicy = .stableOnly → cl ≠ .unstable → undocumented s cl r = r) ∧
    (s.params.undocPolicy = .allWithMagic → undocumented s cl r = r)) ∧
  State.reset.params.undocPolicy = .allWithMagic

/-- No step changes an open parameter: DECIMAL_MODE, JMP_IND_PAGE_WRAP, UNDOC_POLICY, MAGIC and Platform stay as
given. From R7, 00_scope.md Implementation parameters (A4). The count of steps is the model's own (log 23). -/
def Obligations.EveryStepKeepsTheParameters : Prop :=
  ∀ s t : State, step s = .next t →
    (t.settings = s.settings ∧ t.params = s.params ∧ ∀ a, t.kindAt a = s.kindAt a) ∧ t.steps = s.steps + 1
end

