-- ==== Sys2Proof/Laws/State.lean ====
section
/-! SUPPORT. The small lemmas of the state: for each update the value of each field, and what a read of one byte gives
after an update that leaves memory alone. -/

namespace Sys2Proof.Machine

/-- Two states that agree in every field are the same. -/
theorem State.ext {s t : State} (ha : s.a = t.a) (hx : s.x = t.x) (hy : s.y = t.y) (hsp : s.sp = t.sp)
    (hpc : s.pc = t.pc) (hp : s.p = t.p) (hmem : s.mem = t.mem) (hirq : s.irqLine = t.irqLine)
    (hnmi : s.nmiPending = t.nmiPending) (hpoll : s.iForPoll = t.iForPoll) (hstop : s.stopped = t.stopped)
    (hin : s.inputs = t.inputs) (hset : s.settings = t.settings) (hrc : s.resetCount = t.resetCount)
    (hst : s.steps = t.steps) (hcyc : s.cycles = t.cycles) : s = t := by
  cases s
  cases t
  simp only at *
  simp [*]

@[simp] theorem State.setA_a (s : State) (v : Byte) : (s.setA v).a = v := rfl
@[simp] theorem State.setA_x (s : State) (v : Byte) : (s.setA v).x = s.x := rfl
@[simp] theorem State.setA_y (s : State) (v : Byte) : (s.setA v).y = s.y := rfl
@[simp] theorem State.setA_sp (s : State) (v : Byte) : (s.setA v).sp = s.sp := rfl
@[simp] theorem State.setA_pc (s : State) (v : Byte) : (s.setA v).pc = s.pc := rfl
@[simp] theorem State.setA_p (s : State) (v : Byte) : (s.setA v).p = s.p := rfl
@[simp] theorem State.setA_mem (s : State) (v : Byte) : (s.setA v).mem = s.mem := rfl
@[simp] theorem State.setA_irqLine (s : State) (v : Byte) : (s.setA v).irqLine = s.irqLine := rfl
@[simp] theorem State.setA_nmiPending (s : State) (v : Byte) : (s.setA v).nmiPending = s.nmiPending := rfl
@[simp] theorem State.setA_iForPoll (s : State) (v : Byte) : (s.setA v).iForPoll = s.iForPoll := rfl
@[simp] theorem State.setA_stopped (s : State) (v : Byte) : (s.setA v).stopped = s.stopped := rfl
@[simp] theorem State.setA_inputs (s : State) (v : Byte) : (s.setA v).inputs = s.inputs := rfl
@[simp] theorem State.setA_settings (s : State) (v : Byte) : (s.setA v).settings = s.settings := rfl
@[simp] theorem State.setA_resetCount (s : State) (v : Byte) : (s.setA v).resetCount = s.resetCount := rfl
@[simp] theorem State.setA_steps (s : State) (v : Byte) : (s.setA v).steps = s.steps := rfl
@[simp] theorem State.setA_cycles (s : State) (v : Byte) : (s.setA v).cycles = s.cycles := rfl
@[simp] theorem State.setA_params (s : State) (v : Byte) : (s.setA v).params = s.params := rfl
@[simp] theorem State.setA_readable (s : State) (v : Byte) (k : Addr) : (s.setA v).readable k = s.readable k := rfl
@[simp] theorem State.setA_writable (s : State) (v : Byte) (k : Addr) : (s.setA v).writable k = s.writable k := rfl
@[simp] theorem State.setA_read (s : State) (v : Byte) (k : Addr) : (s.setA v).read k = s.read k := rfl

@[simp] theorem State.setX_a (s : State) (v : Byte) : (s.setX v).a = s.a := rfl
@[simp] theorem State.setX_x (s : State) (v : Byte) : (s.setX v).x = v := rfl
@[simp] theorem State.setX_y (s : State) (v : Byte) : (s.setX v).y = s.y := rfl
@[simp] theorem State.setX_sp (s : State) (v : Byte) : (s.setX v).sp = s.sp := rfl
@[simp] theorem State.setX_pc (s : State) (v : Byte) : (s.setX v).pc = s.pc := rfl
@[simp] theorem State.setX_p (s : State) (v : Byte) : (s.setX v).p = s.p := rfl
@[simp] theorem State.setX_mem (s : State) (v : Byte) : (s.setX v).mem = s.mem := rfl
@[simp] theorem State.setX_irqLine (s : State) (v : Byte) : (s.setX v).irqLine = s.irqLine := rfl
@[simp] theorem State.setX_nmiPending (s : State) (v : Byte) : (s.setX v).nmiPending = s.nmiPending := rfl
@[simp] theorem State.setX_iForPoll (s : State) (v : Byte) : (s.setX v).iForPoll = s.iForPoll := rfl
@[simp] theorem State.setX_stopped (s : State) (v : Byte) : (s.setX v).stopped = s.stopped := rfl
@[simp] theorem State.setX_inputs (s : State) (v : Byte) : (s.setX v).inputs = s.inputs := rfl
@[simp] theorem State.setX_settings (s : State) (v : Byte) : (s.setX v).settings = s.settings := rfl
@[simp] theorem State.setX_resetCount (s : State) (v : Byte) : (s.setX v).resetCount = s.resetCount := rfl
@[simp] theorem State.setX_steps (s : State) (v : Byte) : (s.setX v).steps = s.steps := rfl
@[simp] theorem State.setX_cycles (s : State) (v : Byte) : (s.setX v).cycles = s.cycles := rfl
@[simp] theorem State.setX_params (s : State) (v : Byte) : (s.setX v).params = s.params := rfl
@[simp] theorem State.setX_readable (s : State) (v : Byte) (k : Addr) : (s.setX v).readable k = s.readable k := rfl
@[simp] theorem State.setX_writable (s : State) (v : Byte) (k : Addr) : (s.setX v).writable k = s.writable k := rfl
@[simp] theorem State.setX_read (s : State) (v : Byte) (k : Addr) : (s.setX v).read k = s.read k := rfl

@[simp] theorem State.setY_a (s : State) (v : Byte) : (s.setY v).a = s.a := rfl
@[simp] theorem State.setY_x (s : State) (v : Byte) : (s.setY v).x = s.x := rfl
@[simp] theorem State.setY_y (s : State) (v : Byte) : (s.setY v).y = v := rfl
@[simp] theorem State.setY_sp (s : State) (v : Byte) : (s.setY v).sp = s.sp := rfl
@[simp] theorem State.setY_pc (s : State) (v : Byte) : (s.setY v).pc = s.pc := rfl
@[simp] theorem State.setY_p (s : State) (v : Byte) : (s.setY v).p = s.p := rfl
@[simp] theorem State.setY_mem (s : State) (v : Byte) : (s.setY v).mem = s.mem := rfl
@[simp] theorem State.setY_irqLine (s : State) (v : Byte) : (s.setY v).irqLine = s.irqLine := rfl
@[simp] theorem State.setY_nmiPending (s : State) (v : Byte) : (s.setY v).nmiPending = s.nmiPending := rfl
@[simp] theorem State.setY_iForPoll (s : State) (v : Byte) : (s.setY v).iForPoll = s.iForPoll := rfl
@[simp] theorem State.setY_stopped (s : State) (v : Byte) : (s.setY v).stopped = s.stopped := rfl
@[simp] theorem State.setY_inputs (s : State) (v : Byte) : (s.setY v).inputs = s.inputs := rfl
@[simp] theorem State.setY_settings (s : State) (v : Byte) : (s.setY v).settings = s.settings := rfl
@[simp] theorem State.setY_resetCount (s : State) (v : Byte) : (s.setY v).resetCount = s.resetCount := rfl
@[simp] theorem State.setY_steps (s : State) (v : Byte) : (s.setY v).steps = s.steps := rfl
@[simp] theorem State.setY_cycles (s : State) (v : Byte) : (s.setY v).cycles = s.cycles := rfl
@[simp] theorem State.setY_params (s : State) (v : Byte) : (s.setY v).params = s.params := rfl
@[simp] theorem State.setY_readable (s : State) (v : Byte) (k : Addr) : (s.setY v).readable k = s.readable k := rfl
@[simp] theorem State.setY_writable (s : State) (v : Byte) (k : Addr) : (s.setY v).writable k = s.writable k := rfl
@[simp] theorem State.setY_read (s : State) (v : Byte) (k : Addr) : (s.setY v).read k = s.read k := rfl

@[simp] theorem State.setSp_a (s : State) (v : Byte) : (s.setSp v).a = s.a := rfl
@[simp] theorem State.setSp_x (s : State) (v : Byte) : (s.setSp v).x = s.x := rfl
@[simp] theorem State.setSp_y (s : State) (v : Byte) : (s.setSp v).y = s.y := rfl
@[simp] theorem State.setSp_sp (s : State) (v : Byte) : (s.setSp v).sp = v := rfl
@[simp] theorem State.setSp_pc (s : State) (v : Byte) : (s.setSp v).pc = s.pc := rfl
@[simp] theorem State.setSp_p (s : State) (v : Byte) : (s.setSp v).p = s.p := rfl
@[simp] theorem State.setSp_mem (s : State) (v : Byte) : (s.setSp v).mem = s.mem := rfl
@[simp] theorem State.setSp_irqLine (s : State) (v : Byte) : (s.setSp v).irqLine = s.irqLine := rfl
@[simp] theorem State.setSp_nmiPending (s : State) (v : Byte) : (s.setSp v).nmiPending = s.nmiPending := rfl
@[simp] theorem State.setSp_iForPoll (s : State) (v : Byte) : (s.setSp v).iForPoll = s.iForPoll := rfl
@[simp] theorem State.setSp_stopped (s : State) (v : Byte) : (s.setSp v).stopped = s.stopped := rfl
@[simp] theorem State.setSp_inputs (s : State) (v : Byte) : (s.setSp v).inputs = s.inputs := rfl
@[simp] theorem State.setSp_settings (s : State) (v : Byte) : (s.setSp v).settings = s.settings := rfl
@[simp] theorem State.setSp_resetCount (s : State) (v : Byte) : (s.setSp v).resetCount = s.resetCount := rfl
@[simp] theorem State.setSp_steps (s : State) (v : Byte) : (s.setSp v).steps = s.steps := rfl
@[simp] theorem State.setSp_cycles (s : State) (v : Byte) : (s.setSp v).cycles = s.cycles := rfl
@[simp] theorem State.setSp_params (s : State) (v : Byte) : (s.setSp v).params = s.params := rfl
@[simp] theorem State.setSp_readable (s : State) (v : Byte) (k : Addr) : (s.setSp v).readable k = s.readable k := rfl
@[simp] theorem State.setSp_writable (s : State) (v : Byte) (k : Addr) : (s.setSp v).writable k = s.writable k := rfl
@[simp] theorem State.setSp_read (s : State) (v : Byte) (k : Addr) : (s.setSp v).read k = s.read k := rfl

@[simp] theorem State.setPc_a (s : State) (v : Addr) : (s.setPc v).a = s.a := rfl
@[simp] theorem State.setPc_x (s : State) (v : Addr) : (s.setPc v).x = s.x := rfl
@[simp] theorem State.setPc_y (s : State) (v : Addr) : (s.setPc v).y = s.y := rfl
@[simp] theorem State.setPc_sp (s : State) (v : Addr) : (s.setPc v).sp = s.sp := rfl
@[simp] theorem State.setPc_pc (s : State) (v : Addr) : (s.setPc v).pc = v := rfl
@[simp] theorem State.setPc_p (s : State) (v : Addr) : (s.setPc v).p = s.p := rfl
@[simp] theorem State.setPc_mem (s : State) (v : Addr) : (s.setPc v).mem = s.mem := rfl
@[simp] theorem State.setPc_irqLine (s : State) (v : Addr) : (s.setPc v).irqLine = s.irqLine := rfl
@[simp] theorem State.setPc_nmiPending (s : State) (v : Addr) : (s.setPc v).nmiPending = s.nmiPending := rfl
@[simp] theorem State.setPc_iForPoll (s : State) (v : Addr) : (s.setPc v).iForPoll = s.iForPoll := rfl
@[simp] theorem State.setPc_stopped (s : State) (v : Addr) : (s.setPc v).stopped = s.stopped := rfl
@[simp] theorem State.setPc_inputs (s : State) (v : Addr) : (s.setPc v).inputs = s.inputs := rfl
@[simp] theorem State.setPc_settings (s : State) (v : Addr) : (s.setPc v).settings = s.settings := rfl
@[simp] theorem State.setPc_resetCount (s : State) (v : Addr) : (s.setPc v).resetCount = s.resetCount := rfl
@[simp] theorem State.setPc_steps (s : State) (v : Addr) : (s.setPc v).steps = s.steps := rfl
@[simp] theorem State.setPc_cycles (s : State) (v : Addr) : (s.setPc v).cycles = s.cycles := rfl
@[simp] theorem State.setPc_params (s : State) (v : Addr) : (s.setPc v).params = s.params := rfl
@[simp] theorem State.setPc_readable (s : State) (v : Addr) (k : Addr) : (s.setPc v).readable k = s.readable k := rfl
@[simp] theorem State.setPc_writable (s : State) (v : Addr) (k : Addr) : (s.setPc v).writable k = s.writable k := rfl
@[simp] theorem State.setPc_read (s : State) (v : Addr) (k : Addr) : (s.setPc v).read k = s.read k := rfl

@[simp] theorem State.setP_a (s : State) (v : Flags) : (s.setP v).a = s.a := rfl
@[simp] theorem State.setP_x (s : State) (v : Flags) : (s.setP v).x = s.x := rfl
@[simp] theorem State.setP_y (s : State) (v : Flags) : (s.setP v).y = s.y := rfl
@[simp] theorem State.setP_sp (s : State) (v : Flags) : (s.setP v).sp = s.sp := rfl
@[simp] theorem State.setP_pc (s : State) (v : Flags) : (s.setP v).pc = s.pc := rfl
@[simp] theorem State.setP_p (s : State) (v : Flags) : (s.setP v).p = v := rfl
@[simp] theorem State.setP_mem (s : State) (v : Flags) : (s.setP v).mem = s.mem := rfl
@[simp] theorem State.setP_irqLine (s : State) (v : Flags) : (s.setP v).irqLine = s.irqLine := rfl
@[simp] theorem State.setP_nmiPending (s : State) (v : Flags) : (s.setP v).nmiPending = s.nmiPending := rfl
@[simp] theorem State.setP_iForPoll (s : State) (v : Flags) : (s.setP v).iForPoll = s.iForPoll := rfl
@[simp] theorem State.setP_stopped (s : State) (v : Flags) : (s.setP v).stopped = s.stopped := rfl
@[simp] theorem State.setP_inputs (s : State) (v : Flags) : (s.setP v).inputs = s.inputs := rfl
@[simp] theorem State.setP_settings (s : State) (v : Flags) : (s.setP v).settings = s.settings := rfl
@[simp] theorem State.setP_resetCount (s : State) (v : Flags) : (s.setP v).resetCount = s.resetCount := rfl
@[simp] theorem State.setP_steps (s : State) (v : Flags) : (s.setP v).steps = s.steps := rfl
@[simp] theorem State.setP_cycles (s : State) (v : Flags) : (s.setP v).cycles = s.cycles := rfl
@[simp] theorem State.setP_params (s : State) (v : Flags) : (s.setP v).params = s.params := rfl
@[simp] theorem State.setP_readable (s : State) (v : Flags) (k : Addr) : (s.setP v).readable k = s.readable k := rfl
@[simp] theorem State.setP_writable (s : State) (v : Flags) (k : Addr) : (s.setP v).writable k = s.writable k := rfl
@[simp] theorem State.setP_read (s : State) (v : Flags) (k : Addr) : (s.setP v).read k = s.read k := rfl

@[simp] theorem State.write_a (s : State) (a : Addr) (v : Byte) : (s.write a v).a = s.a := rfl
@[simp] theorem State.write_x (s : State) (a : Addr) (v : Byte) : (s.write a v).x = s.x := rfl
@[simp] theorem State.write_y (s : State) (a : Addr) (v : Byte) : (s.write a v).y = s.y := rfl
@[simp] theorem State.write_sp (s : State) (a : Addr) (v : Byte) : (s.write a v).sp = s.sp := rfl
@[simp] theorem State.write_pc (s : State) (a : Addr) (v : Byte) : (s.write a v).pc = s.pc := rfl
@[simp] theorem State.write_p (s : State) (a : Addr) (v : Byte) : (s.write a v).p = s.p := rfl
@[simp] theorem State.write_mem (s : State) (a : Addr) (v : Byte) :
    (s.write a v).mem = if s.writable a then Memory.write s.mem a.toNat v else s.mem := rfl
@[simp] theorem State.write_irqLine (s : State) (a : Addr) (v : Byte) : (s.write a v).irqLine = s.irqLine := rfl
@[simp] theorem State.write_nmiPending (s : State) (a : Addr) (v : Byte) :
    (s.write a v).nmiPending = s.nmiPending := rfl
@[simp] theorem State.write_iForPoll (s : State) (a : Addr) (v : Byte) : (s.write a v).iForPoll = s.iForPoll := rfl
@[simp] theorem State.write_stopped (s : State) (a : Addr) (v : Byte) : (s.write a v).stopped = s.stopped := rfl
@[simp] theorem State.write_inputs (s : State) (a : Addr) (v : Byte) : (s.write a v).inputs = s.inputs := rfl
@[simp] theorem State.write_settings (s : State) (a : Addr) (v : Byte) : (s.write a v).settings = s.settings := rfl
@[simp] theorem State.write_resetCount (s : State) (a : Addr) (v : Byte) :
    (s.write a v).resetCount = s.resetCount := rfl
@[simp] theorem State.write_steps (s : State) (a : Addr) (v : Byte) : (s.write a v).steps = s.steps := rfl
@[simp] theorem State.write_cycles (s : State) (a : Addr) (v : Byte) : (s.write a v).cycles = s.cycles := rfl
@[simp] theorem State.write_params (s : State) (a : Addr) (v : Byte) : (s.write a v).params = s.params := rfl
@[simp] theorem State.write_readable (s : State) (a : Addr) (v : Byte) (k : Addr) :
    (s.write a v).readable k = s.readable k := rfl
@[simp] theorem State.write_writable (s : State) (a : Addr) (v : Byte) (k : Addr) :
    (s.write a v).writable k = s.writable k := rfl

@[simp] theorem State.advance_a (s : State) (n : Nat) : (s.advance n).a = s.a := rfl
@[simp] theorem State.advance_x (s : State) (n : Nat) : (s.advance n).x = s.x := rfl
@[simp] theorem State.advance_y (s : State) (n : Nat) : (s.advance n).y = s.y := rfl
@[simp] theorem State.advance_sp (s : State) (n : Nat) : (s.advance n).sp = s.sp := rfl
@[simp] theorem State.advance_pc (s : State) (n : Nat) : (s.advance n).pc = s.pc + BitVec.ofNat 16 n := rfl
@[simp] theorem State.advance_p (s : State) (n : Nat) : (s.advance n).p = s.p := rfl
@[simp] theorem State.advance_mem (s : State) (n : Nat) : (s.advance n).mem = s.mem := rfl
@[simp] theorem State.advance_irqLine (s : State) (n : Nat) : (s.advance n).irqLine = s.irqLine := rfl
@[simp] theorem State.advance_nmiPending (s : State) (n : Nat) : (s.advance n).nmiPending = s.nmiPending := rfl
@[simp] theorem State.advance_iForPoll (s : State) (n : Nat) : (s.advance n).iForPoll = s.iForPoll := rfl
@[simp] theorem State.advance_stopped (s : State) (n : Nat) : (s.advance n).stopped = s.stopped := rfl
@[simp] theorem State.advance_inputs (s : State) (n : Nat) : (s.advance n).inputs = s.inputs := rfl
@[simp] theorem State.advance_settings (s : State) (n : Nat) : (s.advance n).settings = s.settings := rfl
@[simp] theorem State.advance_resetCount (s : State) (n : Nat) : (s.advance n).resetCount = s.resetCount := rfl
@[simp] theorem State.advance_steps (s : State) (n : Nat) : (s.advance n).steps = s.steps := rfl
@[simp] theorem State.advance_cycles (s : State) (n : Nat) : (s.advance n).cycles = s.cycles := rfl
@[simp] theorem State.advance_params (s : State) (n : Nat) : (s.advance n).params = s.params := rfl
@[simp] theorem State.advance_readable (s : State) (n : Nat) (k : Addr) : (s.advance n).readable k = s.readable k := rfl
@[simp] theorem State.advance_writable (s : State) (n : Nat) (k : Addr) : (s.advance n).writable k = s.writable k := rfl
@[simp] theorem State.advance_read (s : State) (n : Nat) (k : Addr) : (s.advance n).read k = s.read k := rfl

@[simp] theorem State.setZN_a (s : State) (v : Byte) : (s.setZN v).a = s.a := rfl
@[simp] theorem State.setZN_x (s : State) (v : Byte) : (s.setZN v).x = s.x := rfl
@[simp] theorem State.setZN_y (s : State) (v : Byte) : (s.setZN v).y = s.y := rfl
@[simp] theorem State.setZN_sp (s : State) (v : Byte) : (s.setZN v).sp = s.sp := rfl
@[simp] theorem State.setZN_pc (s : State) (v : Byte) : (s.setZN v).pc = s.pc := rfl
@[simp] theorem State.setZN_p (s : State) (v : Byte) : (s.setZN v).p = { s.p with z := v == 0, n := v.msb } := rfl
@[simp] theorem State.setZN_mem (s : State) (v : Byte) : (s.setZN v).mem = s.mem := rfl
@[simp] theorem State.setZN_irqLine (s : State) (v : Byte) : (s.setZN v).irqLine = s.irqLine := rfl
@[simp] theorem State.setZN_nmiPending (s : State) (v : Byte) : (s.setZN v).nmiPending = s.nmiPending := rfl
@[simp] theorem State.setZN_iForPoll (s : State) (v : Byte) : (s.setZN v).iForPoll = s.iForPoll := rfl
@[simp] theorem State.setZN_stopped (s : State) (v : Byte) : (s.setZN v).stopped = s.stopped := rfl
@[simp] theorem State.setZN_inputs (s : State) (v : Byte) : (s.setZN v).inputs = s.inputs := rfl
@[simp] theorem State.setZN_settings (s : State) (v : Byte) : (s.setZN v).settings = s.settings := rfl
@[simp] theorem State.setZN_resetCount (s : State) (v : Byte) : (s.setZN v).resetCount = s.resetCount := rfl
@[simp] theorem State.setZN_steps (s : State) (v : Byte) : (s.setZN v).steps = s.steps := rfl
@[simp] theorem State.setZN_cycles (s : State) (v : Byte) : (s.setZN v).cycles = s.cycles := rfl
@[simp] theorem State.setZN_params (s : State) (v : Byte) : (s.setZN v).params = s.params := rfl
@[simp] theorem State.setZN_readable (s : State) (v : Byte) (k : Addr) : (s.setZN v).readable k = s.readable k := rfl
@[simp] theorem State.setZN_writable (s : State) (v : Byte) (k : Addr) : (s.setZN v).writable k = s.writable k := rfl
@[simp] theorem State.setZN_read (s : State) (v : Byte) (k : Addr) : (s.setZN v).read k = s.read k := rfl

@[simp] theorem State.setC_a (s : State) (b : Bool) : (s.setC b).a = s.a := rfl
@[simp] theorem State.setC_x (s : State) (b : Bool) : (s.setC b).x = s.x := rfl
@[simp] theorem State.setC_y (s : State) (b : Bool) : (s.setC b).y = s.y := rfl
@[simp] theorem State.setC_sp (s : State) (b : Bool) : (s.setC b).sp = s.sp := rfl
@[simp] theorem State.setC_pc (s : State) (b : Bool) : (s.setC b).pc = s.pc := rfl
@[simp] theorem State.setC_p (s : State) (b : Bool) : (s.setC b).p = { s.p with c := b } := rfl
@[simp] theorem State.setC_mem (s : State) (b : Bool) : (s.setC b).mem = s.mem := rfl
@[simp] theorem State.setC_irqLine (s : State) (b : Bool) : (s.setC b).irqLine = s.irqLine := rfl
@[simp] theorem State.setC_nmiPending (s : State) (b : Bool) : (s.setC b).nmiPending = s.nmiPending := rfl
@[simp] theorem State.setC_iForPoll (s : State) (b : Bool) : (s.setC b).iForPoll = s.iForPoll := rfl
@[simp] theorem State.setC_stopped (s : State) (b : Bool) : (s.setC b).stopped = s.stopped := rfl
@[simp] theorem State.setC_inputs (s : State) (b : Bool) : (s.setC b).inputs = s.inputs := rfl
@[simp] theorem State.setC_settings (s : State) (b : Bool) : (s.setC b).settings = s.settings := rfl
@[simp] theorem State.setC_resetCount (s : State) (b : Bool) : (s.setC b).resetCount = s.resetCount := rfl
@[simp] theorem State.setC_steps (s : State) (b : Bool) : (s.setC b).steps = s.steps := rfl
@[simp] theorem State.setC_cycles (s : State) (b : Bool) : (s.setC b).cycles = s.cycles := rfl
@[simp] theorem State.setC_params (s : State) (b : Bool) : (s.setC b).params = s.params := rfl
@[simp] theorem State.setC_readable (s : State) (b : Bool) (k : Addr) : (s.setC b).readable k = s.readable k := rfl
@[simp] theorem State.setC_writable (s : State) (b : Bool) (k : Addr) : (s.setC b).writable k = s.writable k := rfl
@[simp] theorem State.setC_read (s : State) (b : Bool) (k : Addr) : (s.setC b).read k = s.read k := rfl

@[simp] theorem State.setV_a (s : State) (b : Bool) : (s.setV b).a = s.a := rfl
@[simp] theorem State.setV_x (s : State) (b : Bool) : (s.setV b).x = s.x := rfl
@[simp] theorem State.setV_y (s : State) (b : Bool) : (s.setV b).y = s.y := rfl
@[simp] theorem State.setV_sp (s : State) (b : Bool) : (s.setV b).sp = s.sp := rfl
@[simp] theorem State.setV_pc (s : State) (b : Bool) : (s.setV b).pc = s.pc := rfl
@[simp] theorem State.setV_p (s : State) (b : Bool) : (s.setV b).p = { s.p with v := b } := rfl
@[simp] theorem State.setV_mem (s : State) (b : Bool) : (s.setV b).mem = s.mem := rfl
@[simp] theorem State.setV_irqLine (s : State) (b : Bool) : (s.setV b).irqLine = s.irqLine := rfl
@[simp] theorem State.setV_nmiPending (s : State) (b : Bool) : (s.setV b).nmiPending = s.nmiPending := rfl
@[simp] theorem State.setV_iForPoll (s : State) (b : Bool) : (s.setV b).iForPoll = s.iForPoll := rfl
@[simp] theorem State.setV_stopped (s : State) (b : Bool) : (s.setV b).stopped = s.stopped := rfl
@[simp] theorem State.setV_inputs (s : State) (b : Bool) : (s.setV b).inputs = s.inputs := rfl
@[simp] theorem State.setV_settings (s : State) (b : Bool) : (s.setV b).settings = s.settings := rfl
@[simp] theorem State.setV_resetCount (s : State) (b : Bool) : (s.setV b).resetCount = s.resetCount := rfl
@[simp] theorem State.setV_steps (s : State) (b : Bool) : (s.setV b).steps = s.steps := rfl
@[simp] theorem State.setV_cycles (s : State) (b : Bool) : (s.setV b).cycles = s.cycles := rfl
@[simp] theorem State.setV_params (s : State) (b : Bool) : (s.setV b).params = s.params := rfl
@[simp] theorem State.setV_readable (s : State) (b : Bool) (k : Addr) : (s.setV b).readable k = s.readable k := rfl
@[simp] theorem State.setV_writable (s : State) (b : Bool) (k : Addr) : (s.setV b).writable k = s.writable k := rfl
@[simp] theorem State.setV_read (s : State) (b : Bool) (k : Addr) : (s.setV b).read k = s.read k := rfl

@[simp] theorem State.setD_a (s : State) (b : Bool) : (s.setD b).a = s.a := rfl
@[simp] theorem State.setD_x (s : State) (b : Bool) : (s.setD b).x = s.x := rfl
@[simp] theorem State.setD_y (s : State) (b : Bool) : (s.setD b).y = s.y := rfl
@[simp] theorem State.setD_sp (s : State) (b : Bool) : (s.setD b).sp = s.sp := rfl
@[simp] theorem State.setD_pc (s : State) (b : Bool) : (s.setD b).pc = s.pc := rfl
@[simp] theorem State.setD_p (s : State) (b : Bool) : (s.setD b).p = { s.p with d := b } := rfl
@[simp] theorem State.setD_mem (s : State) (b : Bool) : (s.setD b).mem = s.mem := rfl
@[simp] theorem State.setD_irqLine (s : State) (b : Bool) : (s.setD b).irqLine = s.irqLine := rfl
@[simp] theorem State.setD_nmiPending (s : State) (b : Bool) : (s.setD b).nmiPending = s.nmiPending := rfl
@[simp] theorem State.setD_iForPoll (s : State) (b : Bool) : (s.setD b).iForPoll = s.iForPoll := rfl
@[simp] theorem State.setD_stopped (s : State) (b : Bool) : (s.setD b).stopped = s.stopped := rfl
@[simp] theorem State.setD_inputs (s : State) (b : Bool) : (s.setD b).inputs = s.inputs := rfl
@[simp] theorem State.setD_settings (s : State) (b : Bool) : (s.setD b).settings = s.settings := rfl
@[simp] theorem State.setD_resetCount (s : State) (b : Bool) : (s.setD b).resetCount = s.resetCount := rfl
@[simp] theorem State.setD_steps (s : State) (b : Bool) : (s.setD b).steps = s.steps := rfl
@[simp] theorem State.setD_cycles (s : State) (b : Bool) : (s.setD b).cycles = s.cycles := rfl
@[simp] theorem State.setD_params (s : State) (b : Bool) : (s.setD b).params = s.params := rfl
@[simp] theorem State.setD_readable (s : State) (b : Bool) (k : Addr) : (s.setD b).readable k = s.readable k := rfl
@[simp] theorem State.setD_writable (s : State) (b : Bool) (k : Addr) : (s.setD b).writable k = s.writable k := rfl
@[simp] theorem State.setD_read (s : State) (b : Bool) (k : Addr) : (s.setD b).read k = s.read k := rfl

@[simp] theorem State.setI_a (s : State) (b : Bool) : (s.setI b).a = s.a := rfl
@[simp] theorem State.setI_x (s : State) (b : Bool) : (s.setI b).x = s.x := rfl
@[simp] theorem State.setI_y (s : State) (b : Bool) : (s.setI b).y = s.y := rfl
@[simp] theorem State.setI_sp (s : State) (b : Bool) : (s.setI b).sp = s.sp := rfl
@[simp] theorem State.setI_pc (s : State) (b : Bool) : (s.setI b).pc = s.pc := rfl
@[simp] theorem State.setI_p (s : State) (b : Bool) : (s.setI b).p = { s.p with i := b } := rfl
@[simp] theorem State.setI_mem (s : State) (b : Bool) : (s.setI b).mem = s.mem := rfl
@[simp] theorem State.setI_irqLine (s : State) (b : Bool) : (s.setI b).irqLine = s.irqLine := rfl
@[simp] theorem State.setI_nmiPending (s : State) (b : Bool) : (s.setI b).nmiPending = s.nmiPending := rfl
@[simp] theorem State.setI_iForPoll (s : State) (b : Bool) : (s.setI b).iForPoll = s.iForPoll := rfl
@[simp] theorem State.setI_stopped (s : State) (b : Bool) : (s.setI b).stopped = s.stopped := rfl
@[simp] theorem State.setI_inputs (s : State) (b : Bool) : (s.setI b).inputs = s.inputs := rfl
@[simp] theorem State.setI_settings (s : State) (b : Bool) : (s.setI b).settings = s.settings := rfl
@[simp] theorem State.setI_resetCount (s : State) (b : Bool) : (s.setI b).resetCount = s.resetCount := rfl
@[simp] theorem State.setI_steps (s : State) (b : Bool) : (s.setI b).steps = s.steps := rfl
@[simp] theorem State.setI_cycles (s : State) (b : Bool) : (s.setI b).cycles = s.cycles := rfl
@[simp] theorem State.setI_params (s : State) (b : Bool) : (s.setI b).params = s.params := rfl
@[simp] theorem State.setI_readable (s : State) (b : Bool) (k : Addr) : (s.setI b).readable k = s.readable k := rfl
@[simp] theorem State.setI_writable (s : State) (b : Bool) (k : Addr) : (s.setI b).writable k = s.writable k := rfl
@[simp] theorem State.setI_read (s : State) (b : Bool) (k : Addr) : (s.setI b).read k = s.read k := rfl

@[simp] theorem State.setCompare_a (s : State) (r m : Byte) : (s.setCompare r m).a = s.a := rfl
@[simp] theorem State.setCompare_x (s : State) (r m : Byte) : (s.setCompare r m).x = s.x := rfl
@[simp] theorem State.setCompare_y (s : State) (r m : Byte) : (s.setCompare r m).y = s.y := rfl
@[simp] theorem State.setCompare_sp (s : State) (r m : Byte) : (s.setCompare r m).sp = s.sp := rfl
@[simp] theorem State.setCompare_pc (s : State) (r m : Byte) : (s.setCompare r m).pc = s.pc := rfl
@[simp] theorem State.setCompare_p (s : State) (r m : Byte) :
    (s.setCompare r m).p = { s.p with c := decide (m.toNat ≤ r.toNat), z := r == m, n := (r - m).msb } := rfl
@[simp] theorem State.setCompare_mem (s : State) (r m : Byte) : (s.setCompare r m).mem = s.mem := rfl
@[simp] theorem State.setCompare_irqLine (s : State) (r m : Byte) : (s.setCompare r m).irqLine = s.irqLine := rfl
@[simp] theorem State.setCompare_nmiPending (s : State) (r m : Byte) :
    (s.setCompare r m).nmiPending = s.nmiPending := rfl
@[simp] theorem State.setCompare_iForPoll (s : State) (r m : Byte) : (s.setCompare r m).iForPoll = s.iForPoll := rfl
@[simp] theorem State.setCompare_stopped (s : State) (r m : Byte) : (s.setCompare r m).stopped = s.stopped := rfl
@[simp] theorem State.setCompare_inputs (s : State) (r m : Byte) : (s.setCompare r m).inputs = s.inputs := rfl
@[simp] theorem State.setCompare_settings (s : State) (r m : Byte) : (s.setCompare r m).settings = s.settings := rfl
@[simp] theorem State.setCompare_resetCount (s : State) (r m : Byte) :
    (s.setCompare r m).resetCount = s.resetCount := rfl
@[simp] theorem State.setCompare_steps (s : State) (r m : Byte) : (s.setCompare r m).steps = s.steps := rfl
@[simp] theorem State.setCompare_cycles (s : State) (r m : Byte) : (s.setCompare r m).cycles = s.cycles := rfl
@[simp] theorem State.setCompare_params (s : State) (r m : Byte) : (s.setCompare r m).params = s.params := rfl
@[simp] theorem State.setCompare_readable (s : State) (r m : Byte) (k : Addr) :
    (s.setCompare r m).readable k = s.readable k := rfl
@[simp] theorem State.setCompare_writable (s : State) (r m : Byte) (k : Addr) :
    (s.setCompare r m).writable k = s.writable k := rfl
@[simp] theorem State.setCompare_read (s : State) (r m : Byte) (k : Addr) : (s.setCompare r m).read k = s.read k := rfl

@[simp] theorem State.stop_a (s : State) : (s.stop).a = s.a := rfl
@[simp] theorem State.stop_x (s : State) : (s.stop).x = s.x := rfl
@[simp] theorem State.stop_y (s : State) : (s.stop).y = s.y := rfl
@[simp] theorem State.stop_sp (s : State) : (s.stop).sp = s.sp := rfl
@[simp] theorem State.stop_pc (s : State) : (s.stop).pc = s.pc := rfl
@[simp] theorem State.stop_p (s : State) : (s.stop).p = s.p := rfl
@[simp] theorem State.stop_mem (s : State) : (s.stop).mem = s.mem := rfl
@[simp] theorem State.stop_irqLine (s : State) : (s.stop).irqLine = s.irqLine := rfl
@[simp] theorem State.stop_nmiPending (s : State) : (s.stop).nmiPending = s.nmiPending := rfl
@[simp] theorem State.stop_iForPoll (s : State) : (s.stop).iForPoll = s.iForPoll := rfl
@[simp] theorem State.stop_stopped (s : State) : (s.stop).stopped = true := rfl
@[simp] theorem State.stop_inputs (s : State) : (s.stop).inputs = s.inputs := rfl
@[simp] theorem State.stop_settings (s : State) : (s.stop).settings = s.settings := rfl
@[simp] theorem State.stop_resetCount (s : State) : (s.stop).resetCount = s.resetCount := rfl
@[simp] theorem State.stop_steps (s : State) : (s.stop).steps = s.steps := rfl
@[simp] theorem State.stop_cycles (s : State) : (s.stop).cycles = s.cycles := rfl
@[simp] theorem State.stop_params (s : State) : (s.stop).params = s.params := rfl
@[simp] theorem State.stop_readable (s : State) (k : Addr) : (s.stop).readable k = s.readable k := rfl
@[simp] theorem State.stop_writable (s : State) (k : Addr) : (s.stop).writable k = s.writable k := rfl
@[simp] theorem State.stop_read (s : State) (k : Addr) : (s.stop).read k = s.read k := rfl

@[simp] theorem State.withCycles_a (s : State) (n : Nat) : (s.withCycles n).a = s.a := rfl
@[simp] theorem State.withCycles_x (s : State) (n : Nat) : (s.withCycles n).x = s.x := rfl
@[simp] theorem State.withCycles_y (s : State) (n : Nat) : (s.withCycles n).y = s.y := rfl
@[simp] theorem State.withCycles_sp (s : State) (n : Nat) : (s.withCycles n).sp = s.sp := rfl
@[simp] theorem State.withCycles_pc (s : State) (n : Nat) : (s.withCycles n).pc = s.pc := rfl
@[simp] theorem State.withCycles_p (s : State) (n : Nat) : (s.withCycles n).p = s.p := rfl
@[simp] theorem State.withCycles_mem (s : State) (n : Nat) : (s.withCycles n).mem = s.mem := rfl
@[simp] theorem State.withCycles_irqLine (s : State) (n : Nat) : (s.withCycles n).irqLine = s.irqLine := rfl
@[simp] theorem State.withCycles_nmiPending (s : State) (n : Nat) : (s.withCycles n).nmiPending = s.nmiPending := rfl
@[simp] theorem State.withCycles_iForPoll (s : State) (n : Nat) : (s.withCycles n).iForPoll = s.iForPoll := rfl
@[simp] theorem State.withCycles_stopped (s : State) (n : Nat) : (s.withCycles n).stopped = s.stopped := rfl
@[simp] theorem State.withCycles_inputs (s : State) (n : Nat) : (s.withCycles n).inputs = s.inputs := rfl
@[simp] theorem State.withCycles_settings (s : State) (n : Nat) : (s.withCycles n).settings = s.settings := rfl
@[simp] theorem State.withCycles_resetCount (s : State) (n : Nat) : (s.withCycles n).resetCount = s.resetCount := rfl
@[simp] theorem State.withCycles_steps (s : State) (n : Nat) : (s.withCycles n).steps = s.steps := rfl
@[simp] theorem State.withCycles_cycles (s : State) (n : Nat) : (s.withCycles n).cycles = n := rfl
@[simp] theorem State.withCycles_params (s : State) (n : Nat) : (s.withCycles n).params = s.params := rfl
@[simp] theorem State.withCycles_readable (s : State) (n : Nat) (k : Addr) :
    (s.withCycles n).readable k = s.readable k := rfl
@[simp] theorem State.withCycles_writable (s : State) (n : Nat) (k : Addr) :
    (s.withCycles n).writable k = s.writable k := rfl
@[simp] theorem State.withCycles_read (s : State) (n : Nat) (k : Addr) : (s.withCycles n).read k = s.read k := rfl

@[simp] theorem State.setSum_a (s : State) (r : Sum) : (s.setSum r).a = r.a := rfl
@[simp] theorem State.setSum_p (s : State) (r : Sum) :
    (s.setSum r).p = { s.p with c := r.c, z := r.z, v := r.v, n := r.n } := rfl
@[simp] theorem State.setSum_x (s : State) (r : Sum) : (s.setSum r).x = s.x := rfl
@[simp] theorem State.setSum_y (s : State) (r : Sum) : (s.setSum r).y = s.y := rfl
@[simp] theorem State.setSum_sp (s : State) (r : Sum) : (s.setSum r).sp = s.sp := rfl
@[simp] theorem State.setSum_pc (s : State) (r : Sum) : (s.setSum r).pc = s.pc := rfl
@[simp] theorem State.setSum_mem (s : State) (r : Sum) : (s.setSum r).mem = s.mem := rfl
@[simp] theorem State.setSum_irqLine (s : State) (r : Sum) : (s.setSum r).irqLine = s.irqLine := rfl
@[simp] theorem State.setSum_nmiPending (s : State) (r : Sum) : (s.setSum r).nmiPending = s.nmiPending := rfl
@[simp] theorem State.setSum_iForPoll (s : State) (r : Sum) : (s.setSum r).iForPoll = s.iForPoll := rfl
@[simp] theorem State.setSum_stopped (s : State) (r : Sum) : (s.setSum r).stopped = s.stopped := rfl
@[simp] theorem State.setSum_inputs (s : State) (r : Sum) : (s.setSum r).inputs = s.inputs := rfl
@[simp] theorem State.setSum_settings (s : State) (r : Sum) : (s.setSum r).settings = s.settings := rfl
@[simp] theorem State.setSum_resetCount (s : State) (r : Sum) : (s.setSum r).resetCount = s.resetCount := rfl
@[simp] theorem State.setSum_steps (s : State) (r : Sum) : (s.setSum r).steps = s.steps := rfl
@[simp] theorem State.setSum_cycles (s : State) (r : Sum) : (s.setSum r).cycles = s.cycles := rfl
@[simp] theorem State.setSum_params (s : State) (r : Sum) : (s.setSum r).params = s.params := rfl
@[simp] theorem State.setSum_readable (s : State) (r : Sum) (k : Addr) : (s.setSum r).readable k = s.readable k := rfl
@[simp] theorem State.setSum_writable (s : State) (r : Sum) (k : Addr) : (s.setSum r).writable k = s.writable k := rfl
@[simp] theorem State.setSum_read (s : State) (r : Sum) (k : Addr) : (s.setSum r).read k = s.read k := rfl

@[simp] theorem State.drop_a (s : State) : s.drop.a = s.a := rfl
@[simp] theorem State.drop_x (s : State) : s.drop.x = s.x := rfl
@[simp] theorem State.drop_y (s : State) : s.drop.y = s.y := rfl
@[simp] theorem State.drop_sp (s : State) : s.drop.sp = s.sp + 1 := rfl
@[simp] theorem State.drop_pc (s : State) : s.drop.pc = s.pc := rfl
@[simp] theorem State.drop_p (s : State) : s.drop.p = s.p := rfl
@[simp] theorem State.drop_mem (s : State) : s.drop.mem = s.mem := rfl
@[simp] theorem State.drop_irqLine (s : State) : s.drop.irqLine = s.irqLine := rfl
@[simp] theorem State.drop_nmiPending (s : State) : s.drop.nmiPending = s.nmiPending := rfl
@[simp] theorem State.drop_iForPoll (s : State) : s.drop.iForPoll = s.iForPoll := rfl
@[simp] theorem State.drop_stopped (s : State) : s.drop.stopped = s.stopped := rfl
@[simp] theorem State.drop_inputs (s : State) : s.drop.inputs = s.inputs := rfl
@[simp] theorem State.drop_settings (s : State) : s.drop.settings = s.settings := rfl
@[simp] theorem State.drop_resetCount (s : State) : s.drop.resetCount = s.resetCount := rfl
@[simp] theorem State.drop_steps (s : State) : s.drop.steps = s.steps := rfl
@[simp] theorem State.drop_cycles (s : State) : s.drop.cycles = s.cycles := rfl
@[simp] theorem State.drop_params (s : State) : s.drop.params = s.params := rfl
@[simp] theorem State.drop_readable (s : State) (k : Addr) : s.drop.readable k = s.readable k := rfl
@[simp] theorem State.drop_writable (s : State) (k : Addr) : s.drop.writable k = s.writable k := rfl
@[simp] theorem State.drop_read (s : State) (k : Addr) : s.drop.read k = s.read k := rfl

@[simp] theorem State.drop16_a (s : State) : s.drop16.a = s.a := rfl
@[simp] theorem State.drop16_x (s : State) : s.drop16.x = s.x := rfl
@[simp] theorem State.drop16_y (s : State) : s.drop16.y = s.y := rfl
@[simp] theorem State.drop16_sp (s : State) : s.drop16.sp = s.sp + 1 + 1 := rfl
@[simp] theorem State.drop16_pc (s : State) : s.drop16.pc = s.pc := rfl
@[simp] theorem State.drop16_p (s : State) : s.drop16.p = s.p := rfl
@[simp] theorem State.drop16_mem (s : State) : s.drop16.mem = s.mem := rfl
@[simp] theorem State.drop16_irqLine (s : State) : s.drop16.irqLine = s.irqLine := rfl
@[simp] theorem State.drop16_nmiPending (s : State) : s.drop16.nmiPending = s.nmiPending := rfl
@[simp] theorem State.drop16_iForPoll (s : State) : s.drop16.iForPoll = s.iForPoll := rfl
@[simp] theorem State.drop16_stopped (s : State) : s.drop16.stopped = s.stopped := rfl
@[simp] theorem State.drop16_inputs (s : State) : s.drop16.inputs = s.inputs := rfl
@[simp] theorem State.drop16_settings (s : State) : s.drop16.settings = s.settings := rfl
@[simp] theorem State.drop16_resetCount (s : State) : s.drop16.resetCount = s.resetCount := rfl
@[simp] theorem State.drop16_steps (s : State) : s.drop16.steps = s.steps := rfl
@[simp] theorem State.drop16_cycles (s : State) : s.drop16.cycles = s.cycles := rfl
@[simp] theorem State.drop16_params (s : State) : s.drop16.params = s.params := rfl
@[simp] theorem State.drop16_readable (s : State) (k : Addr) : s.drop16.readable k = s.readable k := rfl
@[simp] theorem State.drop16_writable (s : State) (k : Addr) : s.drop16.writable k = s.writable k := rfl
@[simp] theorem State.drop16_read (s : State) (k : Addr) : s.drop16.read k = s.read k := rfl

@[simp] theorem finishStep_a (i : Instr) (s t : State) : (finishStep i s t).a = t.a := rfl
@[simp] theorem finishStep_x (i : Instr) (s t : State) : (finishStep i s t).x = t.x := rfl
@[simp] theorem finishStep_y (i : Instr) (s t : State) : (finishStep i s t).y = t.y := rfl
@[simp] theorem finishStep_sp (i : Instr) (s t : State) : (finishStep i s t).sp = t.sp := rfl
@[simp] theorem finishStep_pc (i : Instr) (s t : State) : (finishStep i s t).pc = t.pc := rfl
@[simp] theorem finishStep_p (i : Instr) (s t : State) : (finishStep i s t).p = t.p := rfl
@[simp] theorem finishStep_mem (i : Instr) (s t : State) : (finishStep i s t).mem = t.mem := rfl
@[simp] theorem finishStep_irqLine (i : Instr) (s t : State) : (finishStep i s t).irqLine = t.irqLine := rfl
@[simp] theorem finishStep_nmiPending (i : Instr) (s t : State) : (finishStep i s t).nmiPending = t.nmiPending := rfl
@[simp] theorem finishStep_iForPoll (i : Instr) (s t : State) : (finishStep i s t).iForPoll = iForPollAfter i s t := rfl
@[simp] theorem finishStep_stopped (i : Instr) (s t : State) : (finishStep i s t).stopped = t.stopped := rfl
@[simp] theorem finishStep_inputs (i : Instr) (s t : State) : (finishStep i s t).inputs = t.inputs := rfl
@[simp] theorem finishStep_settings (i : Instr) (s t : State) : (finishStep i s t).settings = t.settings := rfl
@[simp] theorem finishStep_resetCount (i : Instr) (s t : State) : (finishStep i s t).resetCount = t.resetCount := rfl
@[simp] theorem finishStep_steps (i : Instr) (s t : State) : (finishStep i s t).steps = t.steps + 1 := rfl
@[simp] theorem finishStep_cycles (i : Instr) (s t : State) :
    (finishStep i s t).cycles = t.cycles + cyclesTaken i s := rfl
@[simp] theorem finishStep_params (i : Instr) (s t : State) : (finishStep i s t).params = t.params := rfl
@[simp] theorem finishStep_readable (i : Instr) (s t : State) (k : Addr) :
    (finishStep i s t).readable k = t.readable k := rfl
@[simp] theorem finishStep_writable (i : Instr) (s t : State) (k : Addr) :
    (finishStep i s t).writable k = t.writable k := rfl

@[simp] theorem State.push_a (s : State) (v : Byte) : (s.push v).a = s.a := rfl
@[simp] theorem State.push_x (s : State) (v : Byte) : (s.push v).x = s.x := rfl
@[simp] theorem State.push_y (s : State) (v : Byte) : (s.push v).y = s.y := rfl
@[simp] theorem State.push_sp (s : State) (v : Byte) : (s.push v).sp = s.sp - 1 := rfl
@[simp] theorem State.push_pc (s : State) (v : Byte) : (s.push v).pc = s.pc := rfl
@[simp] theorem State.push_p (s : State) (v : Byte) : (s.push v).p = s.p := rfl
@[simp] theorem State.push_mem (s : State) (v : Byte) :
    (s.push v).mem = if s.writable (stackAddr s.sp) then Memory.write s.mem (stackAddr s.sp).toNat v else s.mem := rfl
@[simp] theorem State.push_irqLine (s : State) (v : Byte) : (s.push v).irqLine = s.irqLine := rfl
@[simp] theorem State.push_nmiPending (s : State) (v : Byte) : (s.push v).nmiPending = s.nmiPending := rfl
@[simp] theorem State.push_iForPoll (s : State) (v : Byte) : (s.push v).iForPoll = s.iForPoll := rfl
@[simp] theorem State.push_stopped (s : State) (v : Byte) : (s.push v).stopped = s.stopped := rfl
@[simp] theorem State.push_inputs (s : State) (v : Byte) : (s.push v).inputs = s.inputs := rfl
@[simp] theorem State.push_settings (s : State) (v : Byte) : (s.push v).settings = s.settings := rfl
@[simp] theorem State.push_resetCount (s : State) (v : Byte) : (s.push v).resetCount = s.resetCount := rfl
@[simp] theorem State.push_steps (s : State) (v : Byte) : (s.push v).steps = s.steps := rfl
@[simp] theorem State.push_cycles (s : State) (v : Byte) : (s.push v).cycles = s.cycles := rfl
@[simp] theorem State.push_params (s : State) (v : Byte) : (s.push v).params = s.params := rfl
@[simp] theorem State.push_readable (s : State) (v : Byte) (k : Addr) : (s.push v).readable k = s.readable k := rfl
@[simp] theorem State.push_writable (s : State) (v : Byte) (k : Addr) : (s.push v).writable k = s.writable k := rfl
@[simp] theorem State.push16_params (s : State) (w : Addr) : (s.push16 w).params = s.params := rfl
@[simp] theorem State.push16_readable (s : State) (w : Addr) (k : Addr) : (s.push16 w).readable k = s.readable k := rfl
@[simp] theorem State.push16_writable (s : State) (w : Addr) (k : Addr) : (s.push16 w).writable k = s.writable k := rfl
@[simp] theorem State.pushFrame_params (s : State) (r : Addr) (b : Bool) : (s.pushFrame r b).params = s.params := rfl
@[simp] theorem State.pushFrame_readable (s : State) (r : Addr) (b : Bool) (k : Addr) :
    (s.pushFrame r b).readable k = s.readable k := rfl
@[simp] theorem State.pushFrame_writable (s : State) (r : Addr) (b : Bool) (k : Addr) :
    (s.pushFrame r b).writable k = s.writable k := rfl
@[simp] theorem State.push16_a (s : State) (w : Addr) : (s.push16 w).a = s.a := rfl
@[simp] theorem State.push16_x (s : State) (w : Addr) : (s.push16 w).x = s.x := rfl
@[simp] theorem State.push16_y (s : State) (w : Addr) : (s.push16 w).y = s.y := rfl
@[simp] theorem State.push16_sp (s : State) (w : Addr) : (s.push16 w).sp = s.sp - 1 - 1 := rfl
@[simp] theorem State.push16_pc (s : State) (w : Addr) : (s.push16 w).pc = s.pc := rfl
@[simp] theorem State.push16_p (s : State) (w : Addr) : (s.push16 w).p = s.p := rfl
@[simp] theorem State.push16_irqLine (s : State) (w : Addr) : (s.push16 w).irqLine = s.irqLine := rfl
@[simp] theorem State.push16_nmiPending (s : State) (w : Addr) : (s.push16 w).nmiPending = s.nmiPending := rfl
@[simp] theorem State.push16_iForPoll (s : State) (w : Addr) : (s.push16 w).iForPoll = s.iForPoll := rfl
@[simp] theorem State.push16_stopped (s : State) (w : Addr) : (s.push16 w).stopped = s.stopped := rfl
@[simp] theorem State.push16_inputs (s : State) (w : Addr) : (s.push16 w).inputs = s.inputs := rfl
@[simp] theorem State.push16_settings (s : State) (w : Addr) : (s.push16 w).settings = s.settings := rfl
@[simp] theorem State.push16_resetCount (s : State) (w : Addr) : (s.push16 w).resetCount = s.resetCount := rfl
@[simp] theorem State.push16_steps (s : State) (w : Addr) : (s.push16 w).steps = s.steps := rfl
@[simp] theorem State.push16_cycles (s : State) (w : Addr) : (s.push16 w).cycles = s.cycles := rfl
@[simp] theorem State.pushFrame_a (s : State) (r : Addr) (b : Bool) : (s.pushFrame r b).a = s.a := rfl
@[simp] theorem State.pushFrame_x (s : State) (r : Addr) (b : Bool) : (s.pushFrame r b).x = s.x := rfl
@[simp] theorem State.pushFrame_y (s : State) (r : Addr) (b : Bool) : (s.pushFrame r b).y = s.y := rfl
@[simp] theorem State.pushFrame_sp (s : State) (r : Addr) (b : Bool) : (s.pushFrame r b).sp = s.sp - 1 - 1 - 1 := rfl
@[simp] theorem State.pushFrame_pc (s : State) (r : Addr) (b : Bool) : (s.pushFrame r b).pc = s.pc := rfl
@[simp] theorem State.pushFrame_p (s : State) (r : Addr) (b : Bool) : (s.pushFrame r b).p = s.p := rfl
@[simp] theorem State.pushFrame_irqLine (s : State) (r : Addr) (b : Bool) : (s.pushFrame r b).irqLine = s.irqLine := rfl
@[simp] theorem State.pushFrame_nmiPending (s : State) (r : Addr) (b : Bool) :
    (s.pushFrame r b).nmiPending = s.nmiPending := rfl
@[simp] theorem State.pushFrame_iForPoll (s : State) (r : Addr) (b : Bool) :
    (s.pushFrame r b).iForPoll = s.iForPoll := rfl
@[simp] theorem State.pushFrame_stopped (s : State) (r : Addr) (b : Bool) : (s.pushFrame r b).stopped = s.stopped := rfl
@[simp] theorem State.pushFrame_inputs (s : State) (r : Addr) (b : Bool) : (s.pushFrame r b).inputs = s.inputs := rfl
@[simp] theorem State.pushFrame_settings (s : State) (r : Addr) (b : Bool) :
    (s.pushFrame r b).settings = s.settings := rfl
@[simp] theorem State.pushFrame_resetCount (s : State) (r : Addr) (b : Bool) :
    (s.pushFrame r b).resetCount = s.resetCount := rfl
@[simp] theorem State.pushFrame_steps (s : State) (r : Addr) (b : Bool) : (s.pushFrame r b).steps = s.steps := rfl
@[simp] theorem State.pushFrame_cycles (s : State) (r : Addr) (b : Bool) : (s.pushFrame r b).cycles = s.cycles := rfl
@[simp] theorem State.enter_a (s : State) (r : Addr) (b : Bool) (w : Addr) : (s.enter r b w).a = s.a := by
  simp [State.enter]
@[simp] theorem State.enter_x (s : State) (r : Addr) (b : Bool) (w : Addr) : (s.enter r b w).x = s.x := by
  simp [State.enter]
@[simp] theorem State.enter_y (s : State) (r : Addr) (b : Bool) (w : Addr) : (s.enter r b w).y = s.y := by
  simp [State.enter]
@[simp] theorem State.enter_sp (s : State) (r : Addr) (b : Bool) (w : Addr) :
    (s.enter r b w).sp = s.sp - 1 - 1 - 1 := by
  simp [State.enter]
@[simp] theorem State.enter_p (s : State) (r : Addr) (b : Bool) (w : Addr) :
    (s.enter r b w).p = { s.p with i := true } := by
  simp [State.enter]
@[simp] theorem State.enter_irqLine (s : State) (r : Addr) (b : Bool) (w : Addr) :
    (s.enter r b w).irqLine = s.irqLine := by
  simp [State.enter]
@[simp] theorem State.enter_nmiPending (s : State) (r : Addr) (b : Bool) (w : Addr) :
    (s.enter r b w).nmiPending = s.nmiPending := by
  simp [State.enter]
@[simp] theorem State.enter_iForPoll (s : State) (r : Addr) (b : Bool) (w : Addr) :
    (s.enter r b w).iForPoll = s.iForPoll := by
  simp [State.enter]
@[simp] theorem State.enter_stopped (s : State) (r : Addr) (b : Bool) (w : Addr) :
    (s.enter r b w).stopped = s.stopped := by
  simp [State.enter]
@[simp] theorem State.enter_inputs (s : State) (r : Addr) (b : Bool) (w : Addr) :
    (s.enter r b w).inputs = s.inputs := by
  simp [State.enter]
@[simp] theorem State.enter_settings (s : State) (r : Addr) (b : Bool) (w : Addr) :
    (s.enter r b w).settings = s.settings := by
  simp [State.enter]
@[simp] theorem State.enter_resetCount (s : State) (r : Addr) (b : Bool) (w : Addr) :
    (s.enter r b w).resetCount = s.resetCount := by
  simp [State.enter]
@[simp] theorem State.enter_steps (s : State) (r : Addr) (b : Bool) (w : Addr) : (s.enter r b w).steps = s.steps := by
  simp [State.enter]
@[simp] theorem State.enter_cycles (s : State) (r : Addr) (b : Bool) (w : Addr) :
    (s.enter r b w).cycles = s.cycles := by
  simp [State.enter]
@[simp] theorem State.returnFromInterrupt_a (s : State) :
    s.returnFromInterrupt.a = s.a := rfl
@[simp] theorem State.returnFromInterrupt_x (s : State) :
    s.returnFromInterrupt.x = s.x := rfl
@[simp] theorem State.returnFromInterrupt_y (s : State) :
    s.returnFromInterrupt.y = s.y := rfl
@[simp] theorem State.returnFromInterrupt_sp (s : State) :
    s.returnFromInterrupt.sp = s.sp + 1 + 1 + 1 := rfl
@[simp] theorem State.returnFromInterrupt_pc (s : State) :
    s.returnFromInterrupt.pc = join (s.read (stackAddr (s.sp + 1 + 1 + 1))) (s.read (stackAddr (s.sp + 1 + 1))) := rfl
@[simp] theorem State.returnFromInterrupt_p (s : State) :
    s.returnFromInterrupt.p = Flags.ofByte s.top := rfl
@[simp] theorem State.returnFromInterrupt_mem (s : State) :
    s.returnFromInterrupt.mem = s.mem := rfl
@[simp] theorem State.returnFromInterrupt_irqLine (s : State) :
    s.returnFromInterrupt.irqLine = s.irqLine := rfl
@[simp] theorem State.returnFromInterrupt_nmiPending (s : State) :
    s.returnFromInterrupt.nmiPending = s.nmiPending := rfl
@[simp] theorem State.returnFromInterrupt_iForPoll (s : State) :
    s.returnFromInterrupt.iForPoll = s.iForPoll := rfl
@[simp] theorem State.returnFromInterrupt_stopped (s : State) :
    s.returnFromInterrupt.stopped = s.stopped := rfl
@[simp] theorem State.returnFromInterrupt_inputs (s : State) :
    s.returnFromInterrupt.inputs = s.inputs := rfl
@[simp] theorem State.returnFromInterrupt_settings (s : State) :
    s.returnFromInterrupt.settings = s.settings := rfl
@[simp] theorem State.returnFromInterrupt_resetCount (s : State) :
    s.returnFromInterrupt.resetCount = s.resetCount := rfl
@[simp] theorem State.returnFromInterrupt_steps (s : State) :
    s.returnFromInterrupt.steps = s.steps := rfl
@[simp] theorem State.returnFromInterrupt_cycles (s : State) :
    s.returnFromInterrupt.cycles = s.cycles := rfl
@[simp] theorem State.takeReset_a (s : State) (r : ResetValues) :
    (s.takeReset r).a = r.a := rfl
@[simp] theorem State.takeReset_x (s : State) (r : ResetValues) :
    (s.takeReset r).x = r.x := rfl
@[simp] theorem State.takeReset_y (s : State) (r : ResetValues) :
    (s.takeReset r).y = r.y := rfl
@[simp] theorem State.takeReset_sp (s : State) (r : ResetValues) :
    (s.takeReset r).sp = r.sp := rfl
@[simp] theorem State.takeReset_pc (s : State) (r : ResetValues) :
    (s.takeReset r).pc = s.read16 Config.vecReset := rfl
@[simp] theorem State.takeReset_p (s : State) (r : ResetValues) :
    (s.takeReset r).p = ⟨r.c, r.z, true, r.d, r.v, r.n⟩ := rfl
@[simp] theorem State.takeReset_mem (s : State) (r : ResetValues) :
    (s.takeReset r).mem = s.mem := rfl
@[simp] theorem State.takeReset_irqLine (s : State) (r : ResetValues) :
    (s.takeReset r).irqLine = s.irqLine := rfl
@[simp] theorem State.takeReset_nmiPending (s : State) (r : ResetValues) :
    (s.takeReset r).nmiPending = false := rfl
@[simp] theorem State.takeReset_iForPoll (s : State) (r : ResetValues) :
    (s.takeReset r).iForPoll = true := rfl
@[simp] theorem State.takeReset_stopped (s : State) (r : ResetValues) :
    (s.takeReset r).stopped = false := rfl
@[simp] theorem State.takeReset_inputs (s : State) (r : ResetValues) :
    (s.takeReset r).inputs = s.inputs := rfl
@[simp] theorem State.takeReset_settings (s : State) (r : ResetValues) :
    (s.takeReset r).settings = s.settings := rfl
@[simp] theorem State.takeReset_resetCount (s : State) (r : ResetValues) :
    (s.takeReset r).resetCount = s.resetCount + 1 := rfl
@[simp] theorem State.takeReset_steps (s : State) (r : ResetValues) :
    (s.takeReset r).steps = s.steps + 1 := rfl
@[simp] theorem State.takeReset_cycles (s : State) (r : ResetValues) :
    (s.takeReset r).cycles = s.cycles + entryCycles := rfl

end Sys2Proof.Machine
end

