-- ==== Sys2Proof/Laws/Memory.lean ====
section
/-! SUPPORT. The laws of memory and of the byte-order helpers: reading back, reading elsewhere, the canonical form,
splitting and joining a 16-bit value, and the addresses of the stack page. -/

namespace Sys2Proof

theorem join_toNat (h l : Byte) : (join h l).toNat = h.toNat * 256 + l.toNat := by
  have hl := l.isLt
  simp only [join, BitVec.toNat_append, Nat.shiftLeft_eq]
  rw [← Nat.shiftLeft_eq, ← Nat.shiftLeft_add_eq_or_of_lt hl, Nat.shiftLeft_eq]

theorem lo_toNat (w : Addr) : (lo w).toNat = w.toNat % 256 := by
  simp [lo, BitVec.extractLsb'_toNat]

theorem hi_toNat (w : Addr) : (hi w).toNat = w.toNat / 256 % 256 := by
  simp [hi, BitVec.extractLsb'_toNat, Nat.shiftRight_eq_div_pow]

@[simp] theorem join_hi_lo (w : Addr) : join (hi w) (lo w) = w := by
  apply BitVec.eq_of_toNat_eq
  have := w.isLt
  rw [join_toNat, hi_toNat, lo_toNat]
  omega

@[simp] theorem lo_join (h l : Byte) : lo (join h l) = l := by
  apply BitVec.eq_of_toNat_eq
  have := l.isLt
  rw [lo_toNat, join_toNat]
  omega

@[simp] theorem hi_join (h l : Byte) : hi (join h l) = h := by
  apply BitVec.eq_of_toNat_eq
  have := h.isLt
  have := l.isLt
  rw [hi_toNat, join_toNat]
  omega

theorem join_inj {h l h' l' : Byte} : join h l = join h' l' ↔ h = h' ∧ l = l' := by
  constructor
  · intro e
    exact ⟨by simpa using congrArg hi e, by simpa using congrArg lo e⟩
  · rintro ⟨rfl, rfl⟩
    rfl

namespace Machine

theorem stackAddr_inj {p q : Byte} : stackAddr p = stackAddr q ↔ p = q := by
  simp [stackAddr, join_inj]

/-- No vector byte lies in the stack page. -/
theorem stackAddr_ne {p : Byte} {a : Addr} (h : hi a ≠ Config.stackPage) : stackAddr p ≠ a := by
  rintro rfl
  simp [stackAddr] at h

/-! ### One byte read after a write -/

theorem Memory.read_erase_same (m : Memory) (a : Nat) : Memory.read (Memory.erase m a) a = unlistedByte := by
  induction m with
  | nil => rfl
  | cons c m ih =>
    by_cases h : c.1 = a
    · simpa [Memory.erase, h] using ih
    · simpa [Memory.erase, h, Memory.read] using ih

theorem Memory.read_erase_other (m : Memory) {a b : Nat} (h : b ≠ a) :
    Memory.read (Memory.erase m a) b = Memory.read m b := by
  induction m with
  | nil => rfl
  | cons c m ih =>
    by_cases hc : c.1 = a
    · have : c.1 ≠ b := fun e => h (e ▸ hc)
      simpa [Memory.erase, hc, Memory.read, Ne.symm h] using ih
    · by_cases hb : c.1 = b
      · simp [Memory.erase, hb, Memory.read, h]
      · simpa [Memory.erase, hc, hb, Memory.read] using ih

theorem Memory.read_insert_other (m : Memory) {a b : Nat} (v : Byte) (h : b ≠ a) :
    Memory.read (Memory.insert m a v) b = Memory.read m b := by
  induction m with
  | nil => simp [Memory.insert, Memory.read, Ne.symm h]
  | cons c m ih =>
    by_cases hc : a < c.1
    · simp [Memory.insert, hc, Memory.read, Ne.symm h]
    · simp [Memory.insert, hc, Memory.read, ih]

theorem Memory.read_insert_same (m : Memory) (a : Nat) (v : Byte) (h : ∀ c ∈ m, c.1 ≠ a) :
    Memory.read (Memory.insert m a v) a = v := by
  induction m with
  | nil => simp [Memory.insert, Memory.read]
  | cons c m ih =>
    by_cases hc : a < c.1
    · simp [Memory.insert, hc, Memory.read]
    · simp [Memory.insert, hc, Memory.read, h c (by simp), ih fun d hd => h d (by simp [hd])]

theorem Memory.not_mem_erase (m : Memory) (a : Nat) : ∀ c ∈ Memory.erase m a, c.1 ≠ a := by
  intro c hc
  simpa using (List.mem_filter.mp hc).2

/-- A read after a write to the same address gives the byte written (R64, R66). -/
@[simp] theorem Memory.read_write_same (m : Memory) (a : Nat) (v : Byte) :
    Memory.read (Memory.write m a v) a = v := by
  unfold Memory.write
  split
  · next h => rw [Memory.read_erase_same, h]
  · exact Memory.read_insert_same _ _ _ (Memory.not_mem_erase m a)

/-- A write leaves every other address alone (R64). -/
theorem Memory.read_write_other (m : Memory) {a b : Nat} (v : Byte) (h : b ≠ a) :
    Memory.read (Memory.write m a v) b = Memory.read m b := by
  unfold Memory.write
  split
  · exact Memory.read_erase_other m h
  · rw [Memory.read_insert_other _ _ h, Memory.read_erase_other _ h]

/-! ### What lies at an address (R7 `Platform`, R64) -/

theorem State.writable_iff {s : State} {a : Addr} : s.writable a = true ↔ s.kindAt a = .ram := by
  unfold State.writable kindWritable
  split <;> simp [*]

theorem State.readable_iff {s : State} {a : Addr} : s.readable a = true ↔ s.kindAt a = .ram ∨ s.kindAt a = .rom := by
  unfold State.readable kindReadable
  split <;> simp [*]

/-- What can be written can be read back. -/
theorem State.readable_of_writable {s : State} {a : Addr} (h : s.writable a = true) : s.readable a = true :=
  State.readable_iff.mpr (.inl (State.writable_iff.mp h))

theorem State.read_of_readable {s : State} {a : Addr} (h : s.readable a = true) :
    s.read a = Memory.read s.mem a.toNat := by
  simp [State.read, h]

theorem State.read_of_not_readable {s : State} {a : Addr} (h : s.readable a = false) :
    s.read a = Config.openRead s.steps a := by
  simp [State.read, h]

/-- Two states with the same settings, memory and number of steps read alike. -/
theorem State.read_congr {s t : State} (hs : s.settings = t.settings) (hm : s.mem = t.mem) (hn : s.steps = t.steps)
    (a : Addr) : s.read a = t.read a := by
  unfold State.read State.readable State.kindAt
  rw [hs, hm, hn]

/-- The end of a step changes no byte that is held. -/
theorem finishStep_read {i : Instr} {s t : State} {a : Addr} (h : t.readable a = true) :
    (finishStep i s t).read a = t.read a := by
  rw [State.read_of_readable h, State.read_of_readable (by simpa using h), finishStep_mem]

theorem State.read_write_same {s : State} {a : Addr} (v : Byte) (h : s.writable a = true) :
    (s.write a v).read a = v := by
  rw [State.read_of_readable (by simpa using State.readable_of_writable h)]
  simp [h]

theorem State.read_write_other (s : State) {a k : Addr} (v : Byte) (h : k ≠ a) : (s.write a v).read k = s.read k := by
  have hk : k.toNat ≠ a.toNat := fun e => h (BitVec.eq_of_toNat_eq e)
  by_cases hr : s.readable k = true
  · rw [State.read_of_readable (by simpa using hr), State.read_of_readable hr, State.write_mem]
    split
    · exact Memory.read_write_other _ _ hk
    · rfl
  · rw [State.read_of_not_readable (by simpa using hr), State.read_of_not_readable (by simpa using hr),
      State.write_steps]

/-- A write where no RAM lies changes nothing. -/
theorem State.write_not_writable {s : State} {a : Addr} (v : Byte) (h : s.writable a = false) : s.write a v = s := by
  simp [State.write, h]

/-- What one byte reads as after a write. -/
theorem State.read_write (s : State) (a k : Addr) (v : Byte) :
    (s.write a v).read k = if k = a ∧ s.writable a = true then v else s.read k := by
  split
  · next h => rw [h.1, State.read_write_same v h.2]
  · next h =>
    by_cases hk : k = a
    · rw [State.write_not_writable v (by simpa [hk] using h)]
    · exact State.read_write_other s v hk

theorem State.read_push (s : State) (v : Byte) (k : Addr) :
    (s.push v).read k = if k = stackAddr s.sp ∧ s.writable k = true then v else s.read k := by
  show (s.write (stackAddr s.sp) v).read k = _
  rw [State.read_write]
  by_cases h : k = stackAddr s.sp <;> simp [h]

/-! ### The canonical form -/

theorem Memory.rising_iff (m : Memory) : Memory.rising m = true ↔ m.Pairwise (fun c d => c.1 < d.1) := by
  induction m with
  | nil => simp [Memory.rising]
  | cons c m ih =>
    cases m with
    | nil => simp [Memory.rising]
    | cons d m =>
      simp only [Memory.rising, Bool.and_eq_true, decide_eq_true_eq, ih, List.pairwise_cons, List.mem_cons,
        forall_eq_or_imp]
      constructor
      · rintro ⟨h, hd, hm⟩
        exact ⟨⟨h, fun e he => h.trans (hd e he)⟩, hd, hm⟩
      · rintro ⟨⟨h, -⟩, hd, hm⟩
        exact ⟨h, hd, hm⟩

theorem Memory.wf_iff (m : Memory) :
    Memory.wf m = true ↔ m.Pairwise (fun c d => c.1 < d.1) ∧ ∀ c ∈ m, c.1 < 65536 ∧ c.2 ≠ unlistedByte := by
  simp [Memory.wf, Memory.rising_iff]

theorem Memory.mem_insert {m : Memory} {a : Nat} {v : Byte} {c : Host.Cell} (h : c ∈ Memory.insert m a v) :
    c = (a, v) ∨ c ∈ m := by
  induction m with
  | nil => simpa [Memory.insert] using h
  | cons d m ih =>
    by_cases hd : a < d.1
    · simpa [Memory.insert, hd] using h
    · simp only [Memory.insert, hd, if_false, List.mem_cons] at h
      rcases h with h | h
      · exact .inr (by simp [h])
      · rcases ih h with h | h
        · exact .inl h
        · exact .inr (by simp [h])

theorem Memory.pairwise_insert {m : Memory} {a : Nat} (v : Byte) (hm : m.Pairwise (fun c d => c.1 < d.1))
    (hne : ∀ c ∈ m, c.1 ≠ a) : (Memory.insert m a v).Pairwise (fun c d => c.1 < d.1) := by
  induction m with
  | nil => simp [Memory.insert]
  | cons d m ih =>
    obtain ⟨hd, hm⟩ := List.pairwise_cons.mp hm
    by_cases h : a < d.1
    · rw [Memory.insert, if_pos h, List.pairwise_cons, List.pairwise_cons]
      refine ⟨fun e he => ?_, hd, hm⟩
      rcases List.mem_cons.mp he with rfl | he
      · exact h
      · exact h.trans (hd e he)
    · simp only [Memory.insert, h, if_false, List.pairwise_cons]
      refine ⟨fun c hc => ?_, ih hm fun c hc => hne c (by simp [hc])⟩
      rcases Memory.mem_insert hc with rfl | hc
      · have := hne d (by simp)
        show d.1 < a
        omega
      · exact hd c hc

/-- A write of a byte at one of the 65,536 addresses keeps the canonical form. -/
theorem Memory.wf_write {m : Memory} {a : Nat} (v : Byte) (h : Memory.wf m = true) (ha : a < 65536) :
    Memory.wf (Memory.write m a v) = true := by
  obtain ⟨hp, hc⟩ := (Memory.wf_iff m).mp h
  have hp' : (Memory.erase m a).Pairwise (fun c d => c.1 < d.1) := hp.filter _
  have hc' : ∀ c ∈ Memory.erase m a, c.1 < 65536 ∧ c.2 ≠ unlistedByte := fun c h => hc c (List.mem_filter.mp h).1
  rw [Memory.wf_iff]
  unfold Memory.write
  split
  · exact ⟨hp', hc'⟩
  · next hv =>
    refine ⟨Memory.pairwise_insert v hp' (Memory.not_mem_erase m a), fun c h => ?_⟩
    rcases Memory.mem_insert h with rfl | h
    · exact ⟨ha, hv⟩
    · exact hc' c h

/-- A store keeps the canonical form. -/
theorem State.wf_write {s : State} (a : Addr) (v : Byte) (h : Memory.wf s.mem = true) :
    Memory.wf (s.write a v).mem = true := by
  rw [State.write_mem]
  split
  · exact Memory.wf_write v h a.isLt
  · exact h

/-- A push keeps the canonical form. -/
theorem State.wf_push {s : State} (v : Byte) (h : Memory.wf s.mem = true) : Memory.wf (s.push v).mem = true :=
  State.wf_write _ v h

/-- An address below every listed one reads as an unlisted address does. -/
theorem Memory.read_below (m : Memory) (b : Nat) (h : ∀ c ∈ m, b < c.1) : Memory.read m b = unlistedByte := by
  induction m with
  | nil => rfl
  | cons c m ih =>
    have := h c (by simp)
    simp [Memory.read, show c.1 ≠ b by omega, ih fun d hd => h d (by simp [hd])]

/-- The first entry of a canonical memory lies at or below that of another that reads alike. -/
theorem Memory.head_le {c d : Host.Cell} {m m' : Memory} (hd : d.2 ≠ unlistedByte)
    (hcm : ∀ x ∈ m, c.1 < x.1) (e : ∀ a, Memory.read (c :: m) a = Memory.read (d :: m') a) : c.1 ≤ d.1 := by
  by_contra hlt
  have h := e d.1
  rw [Memory.read_below (c :: m) d.1 (by
    intro x hx
    rcases List.mem_cons.mp hx with rfl | hx
    · omega
    · have := hcm x hx
      omega)] at h
  simp [Memory.read] at h
  exact hd h.symm

/-- Two canonical memories that read alike at every address are the same list. -/
theorem Memory.ext_of_read {m m' : Memory} (h : Memory.wf m = true) (h' : Memory.wf m' = true)
    (e : ∀ a, Memory.read m a = Memory.read m' a) : m = m' := by
  rw [Memory.wf_iff] at h h'
  induction m generalizing m' with
  | nil =>
    cases m' with
    | nil => rfl
    | cons d m' =>
      have := e d.1
      simp [Memory.read] at this
      exact absurd this.symm (h'.2 d (by simp)).2
  | cons c m ih =>
    obtain ⟨hcm, hpm⟩ := List.pairwise_cons.mp h.1
    cases m' with
    | nil =>
      have := e c.1
      simp [Memory.read] at this
      exact absurd this (h.2 c (by simp)).2
    | cons d m' =>
      obtain ⟨hdm, hpm'⟩ := List.pairwise_cons.mp h'.1
      have hk : c.1 = d.1 := Nat.le_antisymm (Memory.head_le (h'.2 d (by simp)).2 hcm e)
        (Memory.head_le (h.2 c (by simp)).2 hdm fun a => (e a).symm)
      have hv : c.2 = d.2 := by
        have := e c.1
        simpa [Memory.read, hk] using this
      have htail : ∀ a, Memory.read m a = Memory.read m' a := by
        intro a
        by_cases ha : a = c.1
        · rw [ha, Memory.read_below m c.1 hcm, Memory.read_below m' c.1 (hk ▸ hdm)]
        · have := e a
          simpa [Memory.read, Ne.symm ha, hk ▸ Ne.symm ha] using this
      rw [ih ⟨hpm, fun x hx => h.2 x (by simp [hx])⟩ ⟨hpm', fun x hx => h'.2 x (by simp [hx])⟩ htail, Prod.ext hk hv]

end Machine

end Sys2Proof
end

