-- ==== Sys2Proof/Laws/Ops.lean ====
section
/-! SUPPORT. What each shared operation can do, said once: the stack frame of an entry, the step boundary, the policy
gate, the sums, and for each operation of the meanings the one state it answers. -/

namespace Sys2Proof.Machine

/-! ### Outcomes -/

theorem next_eq {s t : State} : (Host.Outcome.next s : Result) = .next t ↔ t = s := by
  rw [Host.Outcome.next.injEq, eq_comm]

@[simp] theorem advanceResult_eq_next {n : Nat} {r : Result} {t : State} :
    advanceResult n r = .next t ↔ ∃ u, r = .next u ∧ t = u.advance n := by
  cases r <;> simp [advanceResult, eq_comm]

@[simp] theorem advanceResult_ne_fault {n : Nat} {r : Result} {f : Fault} :
    advanceResult n r = .fault f ↔ r = .fault f := by
  cases r <;> simp [advanceResult]

theorem runInstr_eq_next {i : Instr} {s t : State} :
    runInstr i s = .next t ↔ ∃ u, exec i s = .next u ∧ t = finishStep i s u := by
  unfold runInstr
  cases exec i s <;> simp [eq_comm]

/-! ### The policy and the parameters -/

/-- Where the policy lets the class have its meaning the gate is open (R270). -/
theorem undocumented_open {s : State} {cl : UndocClass} (h : undocAllowed s.params.undocPolicy cl = true) (r : Result) :
    undocumented s cl r = r := by
  simp [undocumented, h]

/-- Where the policy withdraws the class the cell is refused (R270). -/
theorem undocumented_closed {s : State} {cl : UndocClass} (h : undocAllowed s.params.undocPolicy cl = false)
    (r : Result) : undocumented s cl r = .refused .undocumentedCell := by
  simp [undocumented, h]

theorem undocumented_eq_next {s t : State} {cl : UndocClass} {r : Result} :
    undocumented s cl r = .next t ↔ undocAllowed s.params.undocPolicy cl = true ∧ r = .next t := by
  unfold undocumented
  split <;> simp_all

/-- `refuse_all` alone withdraws the classes but the unstable one (R270). -/
theorem undocAllowed_iff {p : UndocPolicy} {cl : UndocClass} (h : cl ≠ .unstable) :
    undocAllowed p cl = true ↔ p ≠ .refuseAll := by
  cases p <;> cases cl <;> simp_all [undocAllowed]

/-- Only `all_with_magic` lets the unstable class have its meaning (R270). -/
theorem undocAllowed_unstable {p : UndocPolicy} : undocAllowed p .unstable = true ↔ p = .allWithMagic := by
  cases p <;> simp [undocAllowed]

/-- With D = 0 the mode does not matter. -/
@[simp] theorem adcSum_binary (mode : DecimalMode) (a m : Byte) (c : Bool) :
    adcSum mode false a m c = some (adcBinary a m c) := by
  cases mode <;> rfl

@[simp] theorem sbcSum_binary (mode : DecimalMode) (a m : Byte) (c : Bool) :
    sbcSum mode false a m c = some (sbcBinary a m c) := by
  cases mode <;> rfl

/-- A sum exists in every mode but `refuse`. -/
theorem adcSum_isSome {mode : DecimalMode} (h : mode ≠ .refuse) (d : Bool) (a m : Byte) (c : Bool) :
    ∃ r, adcSum mode d a m c = some r := by
  cases d <;> cases mode <;> simp_all [adcSum]

theorem sbcSum_isSome {mode : DecimalMode} (h : mode ≠ .refuse) (d : Bool) (a m : Byte) (c : Bool) :
    ∃ r, sbcSum mode d a m c = some r := by
  cases d <;> cases mode <;> simp_all [sbcSum]

@[simp] theorem State.writeSum_eq_next {s t : State} {r : Option Sum} :
    s.writeSum r = .next t ↔ ∃ q, r = some q ∧ t = s.setSum q := by
  cases r <;> simp [State.writeSum, eq_comm]

@[simp] theorem State.writeSum_ne_fault {s : State} {r : Option Sum} {f : Fault} : s.writeSum r ≠ .fault f := by
  cases r <;> simp [State.writeSum]

/-! ### The stack and the entry -/

theorem State.read_push16 (s : State) (w k : Addr) :
    (s.push16 w).read k =
      if k = stackAddr (s.sp - 1) ∧ s.writable k = true then lo w
      else if k = stackAddr s.sp ∧ s.writable k = true then hi w else s.read k := by
  simp [State.push16, State.read_push]

/-- One byte read after the three pushes of an entry (R338). -/
theorem State.read_pushFrame (s : State) (ret : Addr) (b : Bool) (k : Addr) :
    (s.pushFrame ret b).read k =
      if k = stackAddr (s.sp - 1 - 1) ∧ s.writable k = true then s.p.toByte b
      else if k = stackAddr (s.sp - 1) ∧ s.writable k = true then lo ret
      else if k = stackAddr s.sp ∧ s.writable k = true then hi ret else s.read k := by
  simp [State.pushFrame, State.read_push, State.read_push16]

@[simp] theorem State.read_enter (s : State) (ret : Addr) (b : Bool) (vec k : Addr) :
    (s.enter ret b vec).read k = (s.pushFrame ret b).read k := rfl

/-- The word that `Pull16()` returns (R60), by the two bytes read. -/
theorem State.top16_eq (s : State) :
    s.top16 = join (s.read (stackAddr (s.sp + 1 + 1))) (s.read (stackAddr (s.sp + 1))) := by
  simp [State.top16, State.top]

/-- The state after an entry, field by field (R338). -/
theorem State.enter_eq (s : State) (ret : Addr) (b : Bool) (v : Addr) : s.enter ret b v = { s with
    sp := s.sp - 1 - 1 - 1
    p := { s.p with i := true }
    pc := (s.pushFrame ret b).read16 v
    mem := (s.pushFrame ret b).mem } := by
  simp only [State.enter, State.setPc, State.setI, State.setP, State.pushFrame, State.push, State.push16, State.setSp,
    State.write]

/-- The state after a return from an interrupt, field by field (R261, R340). -/
theorem State.returnFromInterrupt_eq (s : State) : s.returnFromInterrupt = { s with
    sp := s.sp + 1 + 1 + 1
    p := Flags.ofByte (s.read (stackAddr (s.sp + 1)))
    pc := join (s.read (stackAddr (s.sp + 1 + 1 + 1))) (s.read (stackAddr (s.sp + 1 + 1))) } := by
  apply State.ext <;> simp [State.top]

/-- The pushes of an entry do not reach the vectors. -/
theorem State.read16_pushFrame (s : State) (ret : Addr) (b : Bool) {v : Addr} (h : hi v ≠ Config.stackPage)
    (h' : hi (v + 1) ≠ Config.stackPage) : (s.pushFrame ret b).read16 v = s.read16 v := by
  have e : ∀ p, v ≠ stackAddr p := fun p => (stackAddr_ne h).symm
  have e' : ∀ p, v + 1 ≠ stackAddr p := fun p => (stackAddr_ne h').symm
  simp only [State.read16, State.read_pushFrame, e, e', false_and, if_false]

theorem State.enter_pc (s : State) (ret : Addr) (b : Bool) {v : Addr} (h : hi v ≠ Config.stackPage)
    (h' : hi (v + 1) ≠ Config.stackPage) : (s.enter ret b v).pc = s.read16 v := by
  rw [← State.read16_pushFrame s ret b h h']
  rfl

@[simp] theorem State.enter_pc_nmi (s : State) (ret : Addr) (b : Bool) :
    (s.enter ret b Config.vecNmi).pc = s.read16 Config.vecNmi :=
  State.enter_pc s ret b (by decide) (by decide)

@[simp] theorem State.enter_pc_irq (s : State) (ret : Addr) (b : Bool) :
    (s.enter ret b Config.vecIrq).pc = s.read16 Config.vecIrq :=
  State.enter_pc s ret b (by decide) (by decide)

/-- The canonical form through an entry. -/
theorem State.wf_enter {s : State} (ret : Addr) (b : Bool) (v : Addr) (h : Memory.wf s.mem = true) :
    Memory.wf (s.enter ret b v).mem = true :=
  State.wf_push _ (State.wf_push _ (State.wf_push _ h))

/-- SetP undoes PByte (R38). -/
@[simp] theorem Flags.ofByte_toByte (p : Flags) (b : Bool) : Flags.ofByte (p.toByte b) = p := by
  obtain ⟨c, z, i, d, v, n⟩ := p
  cases c <;> cases z <;> cases i <;> cases d <;> cases v <;> cases n <;> cases b <;> rfl

/-! ### The step boundary -/

@[simp] theorem State.takeInput_mem (s : State) : s.takeInput.mem = s.mem := by
  unfold State.takeInput
  split <;> rfl

@[simp] theorem State.takeInput_stopped (s : State) : s.takeInput.stopped = s.stopped := by
  unfold State.takeInput
  split <;> rfl

@[simp] theorem State.takeInput_iForPoll (s : State) : s.takeInput.iForPoll = s.iForPoll := by
  unfold State.takeInput
  split <;> rfl

@[simp] theorem State.takeInput_pc (s : State) : s.takeInput.pc = s.pc := by
  unfold State.takeInput
  split <;> rfl

@[simp] theorem State.takeInput_p (s : State) : s.takeInput.p = s.p := by
  unfold State.takeInput
  split <;> rfl

@[simp] theorem State.takeInput_settings (s : State) : s.takeInput.settings = s.settings := by
  unfold State.takeInput
  split <;> rfl

@[simp] theorem State.takeInput_steps (s : State) : s.takeInput.steps = s.steps := by
  unfold State.takeInput
  split <;> rfl

@[simp] theorem State.takeInput_read (s : State) (k : Addr) : s.takeInput.read k = s.read k := by
  unfold State.takeInput
  split <;> rfl

@[simp] theorem State.takeInput_fetch (s : State) : s.takeInput.fetch = s.fetch := by
  simp [State.fetch]

/-- What a step can do: a reset, an NMI entry, an IRQ entry, or the instruction at PC (R333). -/
theorem step_cases {s t : State} (h : step s = .next t) :
    (boundaryEvent s.resetRequested s.takeInput = .reset ∧ t = s.takeInput.resetStep) ∨
    (boundaryEvent s.resetRequested s.takeInput = .nmi ∧ t = s.takeInput.takeNmi) ∨
    (boundaryEvent s.resetRequested s.takeInput = .irq ∧ t = s.takeInput.takeIrq) ∨
    (boundaryEvent s.resetRequested s.takeInput = .instruction ∧
      ∃ u, exec s.fetch s.takeInput = .next u ∧ t = finishStep s.fetch s.takeInput u) := by
  unfold step at h
  split at h
  · next e => exact .inl ⟨e, by simpa using h.symm⟩
  · simp at h
  · next e => exact .inr (.inl ⟨e, by simpa using h.symm⟩)
  · next e => exact .inr (.inr (.inl ⟨e, by simpa using h.symm⟩))
  · next e =>
    rw [State.takeInput_fetch] at h
    exact .inr (.inr (.inr ⟨e, runInstr_eq_next.mp h⟩))

/-- Decoding three bytes always gives the instruction of the opcode byte (R101, R102). -/
theorem decode_three (op b1 b2 : Byte) : ∃ rest, decode [op, b1, b2] = .ok (decodeOpcode op b1 b2, rest) := by
  simp only [decode, decodeOpcode]
  generalize cellOf op = c
  cases c <;> exact ⟨_, rfl⟩

/-! ### The operations of the meanings: the one state each answers -/

variable {s t : State} {o : MemOperand} {b v : Byte} {n : Nat}

theorem opLda_next : opLda o s = .next t ↔ t = ((s.setA (o.value s)).setZN (o.value s)).advance o.length := next_eq

theorem opLdx_next : opLdx o s = .next t ↔ t = ((s.setX (o.value s)).setZN (o.value s)).advance o.length := next_eq

theorem opLdy_next : opLdy o s = .next t ↔ t = ((s.setY (o.value s)).setZN (o.value s)).advance o.length := next_eq

theorem opStore_next : opStore v o s = .next t ↔ t = (s.write (o.ea s) v).advance o.length := next_eq

theorem writeA_next : writeA v n s = .next t ↔ t = ((s.setA v).setZN v).advance n := next_eq

theorem writeAX_next : writeAX v n s = .next t ↔ t = (((s.setA v).setX v).setZN v).advance n := next_eq

theorem opBit_next : opBit o s = .next t ↔ t = (s.setP { s.p with
    z := s.a &&& o.value s == 0, v := (o.value s).getLsbD 6, n := (o.value s).getLsbD 7 }).advance o.length := next_eq

theorem opCmp_next : opCmp o s = .next t ↔ t = (s.setCompare s.a (o.value s)).advance o.length := next_eq

theorem opCpx_next : opCpx o s = .next t ↔ t = (s.setCompare s.x (o.value s)).advance o.length := next_eq

theorem opCpy_next : opCpy o s = .next t ↔ t = (s.setCompare s.y (o.value s)).advance o.length := next_eq

theorem opAdc_next : opAdc o s = .next t ↔
    ∃ r, adcSum s.params.decimalMode s.p.d s.a (o.value s) s.p.c = some r ∧ t = (s.setSum r).advance o.length := by
  simp only [opAdc, adc, advanceResult_eq_next, State.writeSum_eq_next]
  constructor
  · rintro ⟨_, ⟨r, h, rfl⟩, rfl⟩
    exact ⟨r, h, rfl⟩
  · rintro ⟨r, h, rfl⟩
    exact ⟨_, ⟨r, h, rfl⟩, rfl⟩

theorem opSbc_next : opSbc o s = .next t ↔
    ∃ r, sbcSum s.params.decimalMode s.p.d s.a (o.value s) s.p.c = some r ∧ t = (s.setSum r).advance o.length := by
  simp only [opSbc, sbc, advanceResult_eq_next, State.writeSum_eq_next]
  constructor
  · rintro ⟨_, ⟨r, h, rfl⟩, rfl⟩
    exact ⟨r, h, rfl⟩
  · rintro ⟨r, h, rfl⟩
    exact ⟨_, ⟨r, h, rfl⟩, rfl⟩

theorem opShiftAcc_next {f : Byte → Bool → Byte × Bool} : opShiftAcc f s = .next t ↔
    t = (((s.setA (f s.a s.p.c).1).setC (f s.a s.p.c).2).setZN (f s.a s.p.c).1).advance 1 := next_eq

theorem opShiftMem_next {f : Byte → Bool → Byte × Bool} : opShiftMem f o s = .next t ↔
    t = (((s.write (o.ea s) (f (s.read (o.ea s)) s.p.c).1).setC (f (s.read (o.ea s)) s.p.c).2).setZN
      (f (s.read (o.ea s)) s.p.c).1).advance o.length := next_eq

theorem opStepMem_next {f : Byte → Byte} : opStepMem f o s = .next t ↔
    t = ((s.write (o.ea s) (f (s.read (o.ea s)))).setZN (f (s.read (o.ea s)))).advance o.length := next_eq

theorem opBranch_next {m : Mnemonic} : opBranch m b s = .next t ↔
    t = s.setPc (if branchTaken m s.p then branchTarget b s else s.pc + 2) := next_eq

theorem opNopRead_next : opNopRead o s = .next t ↔ t = s.advance o.length := next_eq

theorem opShiftCombine_next {f : Byte → Bool → Byte × Bool} {g : Byte → Byte → Byte} :
    opShiftCombine f g o s = .next t ↔
    t = ((((s.write (o.ea s) (f (s.read (o.ea s)) s.p.c).1).setC (f (s.read (o.ea s)) s.p.c).2).setA
      (g s.a (f (s.read (o.ea s)) s.p.c).1)).setZN (g s.a (f (s.read (o.ea s)) s.p.c).1)).advance o.length := next_eq

theorem opDcp_next : opDcp o s = .next t ↔
    t = ((s.write (o.ea s) (s.read (o.ea s) - 1)).setCompare s.a (s.read (o.ea s) - 1)).advance o.length := next_eq

theorem opRra_next : opRra o s = .next t ↔
    ∃ r, adcSum s.params.decimalMode s.p.d
      s.a (rorByte (s.read (o.ea s)) s.p.c).1 (rorByte (s.read (o.ea s)) s.p.c).2 = some r ∧
      t = (((s.write (o.ea s) (rorByte (s.read (o.ea s)) s.p.c).1).setC
        (rorByte (s.read (o.ea s)) s.p.c).2).setSum r).advance o.length := by
  simp only [opRra, adc, advanceResult_eq_next, State.writeSum_eq_next]
  constructor
  · rintro ⟨_, ⟨r, h, rfl⟩, rfl⟩
    exact ⟨r, h, rfl⟩
  · rintro ⟨r, h, rfl⟩
    exact ⟨_, ⟨r, h, rfl⟩, rfl⟩

theorem opIsc_next : opIsc o s = .next t ↔
    ∃ r, sbcSum s.params.decimalMode s.p.d s.a (s.read (o.ea s) + 1) s.p.c = some r ∧
      t = ((s.write (o.ea s) (s.read (o.ea s) + 1)).setSum r).advance o.length := by
  simp only [opIsc, sbc, advanceResult_eq_next, State.writeSum_eq_next]
  constructor
  · rintro ⟨_, ⟨r, h, rfl⟩, rfl⟩
    exact ⟨r, h, rfl⟩
  · rintro ⟨r, h, rfl⟩
    exact ⟨_, ⟨r, h, rfl⟩, rfl⟩

theorem opArr_next : opArr b s = .next t ↔
    (s.p.d = false ∨ s.params.decimalMode = .binary) ∧ t = (arrBinary b s).advance 2 := by
  unfold opArr
  cases s.p.d <;> cases s.params.decimalMode <;> simp [eq_comm]

theorem opAxs_next : opAxs b s = .next t ↔ t = ((s.setX ((s.a &&& s.x) - b)).setP
    { s.p with c := decide (b.toNat ≤ (s.a &&& s.x).toNat), z := (s.a &&& s.x) - b == 0,
               n := ((s.a &&& s.x) - b).msb }).advance 2 := next_eq

theorem opUnstableStore_next {u : State} : opUnstableStore v o s u = .next t ↔
    o.crossed s = false ∧ t = (u.write (o.ea s) (unstableByte v o s)).advance o.length := by
  unfold opUnstableStore
  cases o.crossed s <;> simp [eq_comm]

end Sys2Proof.Machine
end

