-- ==== Sys2Proof/Laws/Exec.lean ====
section
/-! SUPPORT. The cells of one mnemonic share one operation: `exec` of an instruction with a memory or immediate operand
is the operation of its mnemonic on that operand. One case split, to be cited instead of splitting the 256 cells. -/

namespace Sys2Proof.Machine

/-- The operation of a mnemonic on an operand of memory or on an immediate byte (JMP and JSR apart). -/
def memMeaning (m : Mnemonic) (o : MemOperand) (s : State) : Result :=
  match m with
  | .LDA => opLda o s
  | .LDX => opLdx o s
  | .LDY => opLdy o s
  | .STA => opSta o s
  | .STX => opStx o s
  | .STY => opSty o s
  | .AND => opAnd o s
  | .ORA => opOra o s
  | .EOR => opEor o s
  | .BIT => opBit o s
  | .ADC => opAdc o s
  | .SBC => opSbc o s
  | .CMP => opCmp o s
  | .CPX => opCpx o s
  | .CPY => opCpy o s
  | .ASL => opShiftMem aslByte o s
  | .LSR => opShiftMem lsrByte o s
  | .ROL => opShiftMem rolByte o s
  | .ROR => opShiftMem rorByte o s
  | .INC => opStepMem (· + 1) o s
  | .DEC => opStepMem (· - 1) o s
  | .SLO => opSlo o s
  | .RLA => opRla o s
  | .SRE => opSre o s
  | .RRA => opRra o s
  | .DCP => opDcp o s
  | .ISC => opIsc o s
  | .SAX => opSax o s
  | .LAX => match o with
    | .imm b => opLaxImm b s
    | _ => opLax o s
  | .ANC => opAnc (o.value s) s
  | .ALR => opAlr (o.value s) s
  | .ARR => opArr (o.value s) s
  | .AXS => opAxs (o.value s) s
  | .XAA => opXaa (o.value s) s
  | .LAS => opLas o s
  | .AHX => opAhx o s
  | .TAS => opTas o s
  | .SHY => opShy o s
  | .SHX => opShx o s
  | .NOP => opNopRead o s
  | _ => exec .nop s

/-- The class of the policy table in which a cell with such an operand stands (R270, R272 to R293); none for a
documented cell. -/
def memClass (m : Mnemonic) (o : MemOperand) (op : Byte) : Option UndocClass :=
  match m with
  | .NOP => some .same
  | .SBC => if op = 0xEB then some .same else none
  | .LAX => match o with
    | .imm _ => some .unstable
    | _ => some .stable
  | .XAA | .AHX | .TAS | .SHY | .SHX => some .unstable
  | .SLO | .RLA | .SRE | .RRA | .SAX | .DCP | .ISC | .ANC | .ALR | .ARR | .AXS | .LAS => some .stable
  | _ => none

/-- A meaning behind the policy gate of its class, if it has one (R270). -/
def behindGate (cl : Option UndocClass) (s : State) (r : Result) : Result :=
  match cl with
  | none => r
  | some cl => undocumented s cl r

/-- The length of an instruction with such an operand. -/
theorem length_mem {i : Instr} {o : MemOperand} (h : i.operand = .mem o) : i.length = o.length := by
  rw [Instr.length, h]
  rfl

/-- `exec` of an instruction with such an operand, by its mnemonic and its class. -/
theorem exec_mem {i : Instr} {o : MemOperand} (s : State) (h : i.operand = .mem o) (hj : i.mnemonic ≠ .JMP)
    (hr : i.mnemonic ≠ .JSR) :
    exec i s = behindGate (memClass i.mnemonic o i.opcode) s (memMeaning i.mnemonic o s) := by
  cases i <;> cases h <;> first | rfl | exact absurd rfl hj | exact absurd rfl hr

/-- Where the policy lets the cell have its meaning, `exec` is the operation of the mnemonic. -/
theorem exec_mem_of_allowed {i : Instr} {o : MemOperand} (s : State) (h : i.operand = .mem o) (hj : i.mnemonic ≠ .JMP)
    (hr : i.mnemonic ≠ .JSR)
    (ha : ∀ cl, memClass i.mnemonic o i.opcode = some cl → undocAllowed s.params.undocPolicy cl = true) :
    exec i s = memMeaning i.mnemonic o s := by
  rw [exec_mem s h hj hr]
  cases hc : memClass i.mnemonic o i.opcode with
  | none => rfl
  | some cl => exact undocumented_open (ha cl hc) _

end Sys2Proof.Machine
end

