-- ==== Sys2Proof/Tests/Slice0.lean ====
section
/-! SUPPORT. Tests: what `WellFormed` refuses, the decoding of every opcode byte, one or two single steps for each
mnemonic with the results of the vectors of `spec/95_test_vectors.md` and `spec/97_test_vectors_sweep.md`, steps of the
scenarios of `spec/96_test_vectors_system.md`, and for each statement with hypotheses a witness that meets them. -/

namespace Sys2Proof.Tests

open Sys2Proof.Machine

/-! ### Helpers -/

/-- A start state: A, X, Y, S, the status byte, PC, and the bytes of memory that are not $00. -/
def start (a x y sp p : Byte) (pc : Addr) (mem : List (Addr × Byte)) : State :=
  mem.foldl (fun s c => s.write c.1 c.2)
    { State.reset with a := a, x := x, y := y, sp := sp, p := Flags.ofByte p, pc := pc, iForPoll := (Flags.ofByte p).i }

/-- Settings with every parameter given. -/
def given (mode : DecimalMode) (wrap : Bool) (policy : UndocPolicy) (magic : Byte) (platform : List Region) :
    Settings :=
  { decimalMode := some mode, jmpIndPageWrap := some wrap, undocPolicy := policy, magic := some magic,
    platform := platform }

/-- Page zero and the stack in RAM, a device at $D000, ROM from $E000, nothing elsewhere. -/
def board : Settings :=
  given .nmosBcd true .stableOnly 0xEE
    [⟨0x0000, 0x01FF, .ram⟩, ⟨0xD000, 0xD000, .device⟩, ⟨0xE000, 0xFFFF, .rom⟩, ⟨0x0000, 0xFFFF, .nothing⟩]

/-- Whether a result is a next state with the property. -/
def gives (r : Result) (f : State → Bool) : Bool :=
  match r with
  | .next t => f t
  | .fault _ => false
  | .refused _ => false

/-- The refusal of a result. -/
def refusal (r : Result) : Option Refusal :=
  match r with
  | .next _ => none
  | .fault _ => none
  | .refused e => some e

/-- The fault of a result. -/
def fault (r : Result) : Option Fault :=
  match r with
  | .next _ => none
  | .fault f => some f
  | .refused _ => none

/-- What the table word of each opcode byte of a matrix row decodes to, with the operand bytes $34 and $12. -/
def decodeRow (first : Nat) : List Instr :=
  (List.range 16).filterMap fun c => decodeTableWord 24 (0x123400 + first + c)

/-! ### WellFormed refuses (R81, R99) -/

/-- Check 1: STA has no immediate cell. -/
theorem test_wellFormed_pair : Form.wellFormed { mnemonic := .STA, mode := .imm, operandBytes := 1 } = false := by
  decide

/-- Check 2: an immediate operand is one byte. -/
theorem test_wellFormed_bytes : Form.wellFormed { mnemonic := .LDA, mode := .imm, operandBytes := 2 } = false := by
  decide

theorem test_wellFormed_accepts : Form.wellFormed { mnemonic := .LDA, mode := .imm, operandBytes := 1 } = true := by
  decide

/-! ### Decoding: every opcode byte (R98), and words of the table -/

/-- Rows 0x and 1x of the matrix of R98. -/
theorem test_decode_rows01 : decodeRow 0x00 =
    [.brk, .oraIndX 0x34, .stp02, .sloIndX 0x34,
     .nopZp04 0x34, .oraZp 0x34, .aslZp 0x34, .sloZp 0x34,
     .php, .oraImm 0x34, .aslAcc, .ancImm0B 0x34,
     .nopAbs 0x1234, .oraAbs 0x1234, .aslAbs 0x1234, .sloAbs 0x1234] ∧
    decodeRow 0x10 =
    [.bpl 0x34, .oraIndY 0x34, .stp12, .sloIndY 0x34,
     .nopZpX14 0x34, .oraZpX 0x34, .aslZpX 0x34, .sloZpX 0x34,
     .clc, .oraAbsY 0x1234, .nop1A, .sloAbsY 0x1234,
     .nopAbsX1C 0x1234, .oraAbsX 0x1234, .aslAbsX 0x1234, .sloAbsX 0x1234] := by decide

/-- Rows 2x and 3x of the matrix of R98. -/
theorem test_decode_rows23 : decodeRow 0x20 =
    [.jsrAbs 0x1234, .andIndX 0x34, .stp22, .rlaIndX 0x34,
     .bitZp 0x34, .andZp 0x34, .rolZp 0x34, .rlaZp 0x34,
     .plp, .andImm 0x34, .rolAcc, .ancImm2B 0x34,
     .bitAbs 0x1234, .andAbs 0x1234, .rolAbs 0x1234, .rlaAbs 0x1234] ∧
    decodeRow 0x30 =
    [.bmi 0x34, .andIndY 0x34, .stp32, .rlaIndY 0x34,
     .nopZpX34 0x34, .andZpX 0x34, .rolZpX 0x34, .rlaZpX 0x34,
     .sec, .andAbsY 0x1234, .nop3A, .rlaAbsY 0x1234,
     .nopAbsX3C 0x1234, .andAbsX 0x1234, .rolAbsX 0x1234, .rlaAbsX 0x1234] := by decide

/-- Rows 4x and 5x of the matrix of R98. -/
theorem test_decode_rows45 : decodeRow 0x40 =
    [.rti, .eorIndX 0x34, .stp42, .sreIndX 0x34,
     .nopZp44 0x34, .eorZp 0x34, .lsrZp 0x34, .sreZp 0x34,
     .pha, .eorImm 0x34, .lsrAcc, .alrImm 0x34,
     .jmpAbs 0x1234, .eorAbs 0x1234, .lsrAbs 0x1234, .sreAbs 0x1234] ∧
    decodeRow 0x50 =
    [.bvc 0x34, .eorIndY 0x34, .stp52, .sreIndY 0x34,
     .nopZpX54 0x34, .eorZpX 0x34, .lsrZpX 0x34, .sreZpX 0x34,
     .cli, .eorAbsY 0x1234, .nop5A, .sreAbsY 0x1234,
     .nopAbsX5C 0x1234, .eorAbsX 0x1234, .lsrAbsX 0x1234, .sreAbsX 0x1234] := by decide

/-- Rows 6x and 7x of the matrix of R98. -/
theorem test_decode_rows67 : decodeRow 0x60 =
    [.rts, .adcIndX 0x34, .stp62, .rraIndX 0x34,
     .nopZp64 0x34, .adcZp 0x34, .rorZp 0x34, .rraZp 0x34,
     .pla, .adcImm 0x34, .rorAcc, .arrImm 0x34,
     .jmpInd 0x1234, .adcAbs 0x1234, .rorAbs 0x1234, .rraAbs 0x1234] ∧
    decodeRow 0x70 =
    [.bvs 0x34, .adcIndY 0x34, .stp72, .rraIndY 0x34,
     .nopZpX74 0x34, .adcZpX 0x34, .rorZpX 0x34, .rraZpX 0x34,
     .sei, .adcAbsY 0x1234, .nop7A, .rraAbsY 0x1234,
     .nopAbsX7C 0x1234, .adcAbsX 0x1234, .rorAbsX 0x1234, .rraAbsX 0x1234] := by decide

/-- Rows 8x and 9x of the matrix of R98. -/
theorem test_decode_rows89 : decodeRow 0x80 =
    [.nopImm80 0x34, .staIndX 0x34, .nopImm82 0x34, .saxIndX 0x34,
     .styZp 0x34, .staZp 0x34, .stxZp 0x34, .saxZp 0x34,
     .dey, .nopImm89 0x34, .txa, .xaaImm 0x34,
     .styAbs 0x1234, .staAbs 0x1234, .stxAbs 0x1234, .saxAbs 0x1234] ∧
    decodeRow 0x90 =
    [.bcc 0x34, .staIndY 0x34, .stp92, .ahxIndY 0x34,
     .styZpX 0x34, .staZpX 0x34, .stxZpY 0x34, .saxZpY 0x34,
     .tya, .staAbsY 0x1234, .txs, .tasAbsY 0x1234,
     .shyAbsX 0x1234, .staAbsX 0x1234, .shxAbsY 0x1234, .ahxAbsY 0x1234] := by decide

/-- Rows Ax and Bx of the matrix of R98. -/
theorem test_decode_rowsAB : decodeRow 0xA0 =
    [.ldyImm 0x34, .ldaIndX 0x34, .ldxImm 0x34, .laxIndX 0x34,
     .ldyZp 0x34, .ldaZp 0x34, .ldxZp 0x34, .laxZp 0x34,
     .tay, .ldaImm 0x34, .tax, .laxImm 0x34,
     .ldyAbs 0x1234, .ldaAbs 0x1234, .ldxAbs 0x1234, .laxAbs 0x1234] ∧
    decodeRow 0xB0 =
    [.bcs 0x34, .ldaIndY 0x34, .stpB2, .laxIndY 0x34,
     .ldyZpX 0x34, .ldaZpX 0x34, .ldxZpY 0x34, .laxZpY 0x34,
     .clv, .ldaAbsY 0x1234, .tsx, .lasAbsY 0x1234,
     .ldyAbsX 0x1234, .ldaAbsX 0x1234, .ldxAbsY 0x1234, .laxAbsY 0x1234] := by decide

/-- Rows Cx and Dx of the matrix of R98. -/
theorem test_decode_rowsCD : decodeRow 0xC0 =
    [.cpyImm 0x34, .cmpIndX 0x34, .nopImmC2 0x34, .dcpIndX 0x34,
     .cpyZp 0x34, .cmpZp 0x34, .decZp 0x34, .dcpZp 0x34,
     .iny, .cmpImm 0x34, .dex, .axsImm 0x34,
     .cpyAbs 0x1234, .cmpAbs 0x1234, .decAbs 0x1234, .dcpAbs 0x1234] ∧
    decodeRow 0xD0 =
    [.bne 0x34, .cmpIndY 0x34, .stpD2, .dcpIndY 0x34,
     .nopZpXD4 0x34, .cmpZpX 0x34, .decZpX 0x34, .dcpZpX 0x34,
     .cld, .cmpAbsY 0x1234, .nopDA, .dcpAbsY 0x1234,
     .nopAbsXDC 0x1234, .cmpAbsX 0x1234, .decAbsX 0x1234, .dcpAbsX 0x1234] := by decide

/-- Rows Ex and Fx of the matrix of R98. -/
theorem test_decode_rowsEF : decodeRow 0xE0 =
    [.cpxImm 0x34, .sbcIndX 0x34, .nopImmE2 0x34, .iscIndX 0x34,
     .cpxZp 0x34, .sbcZp 0x34, .incZp 0x34, .iscZp 0x34,
     .inx, .sbcImm 0x34, .nop, .sbcImmEB 0x34,
     .cpxAbs 0x1234, .sbcAbs 0x1234, .incAbs 0x1234, .iscAbs 0x1234] ∧
    decodeRow 0xF0 =
    [.beq 0x34, .sbcIndY 0x34, .stpF2, .iscIndY 0x34,
     .nopZpXF4 0x34, .sbcZpX 0x34, .incZpX 0x34, .iscZpX 0x34,
     .sed, .sbcAbsY 0x1234, .nopFA, .iscAbsY 0x1234,
     .nopAbsXFC 0x1234, .sbcAbsX 0x1234, .incAbsX 0x1234, .iscAbsX 0x1234] := by decide

/-- Fewer bytes than the format has (R102). -/
theorem test_decode_short : decode [0xAD, 0x34] = .error .operandBytesMissing ∧ decode [] = .error .noOpcodeByte := by
  decide

/-- LDA #$80 is `1010 1001`, then `1000 0000`; STA $1234 is `1000 1101`, low byte first (R52, R80). -/
theorem test_encode : encode (.ldaImm 0x80) = [0b10101001, 0b10000000] ∧
    encode (.staAbs 0x1234) = [0b10001101, 0x34, 0x12] := by decide

theorem test_decodeTableWord : decodeTableWord 16 0x80A9 = some (.ldaImm 0x80) ∧
    decodeTableWord 24 0x12348D = some (.staAbs 0x1234) ∧ decodeTableWord 8 0x8D = some (.staAbs 0x0000) ∧
    decodeTableWord 8 0x00 = some .brk := by decide

/-- The placed word is the first instruction after reset. -/
theorem test_withFetchWord : gives (step (State.reset.withFetchWord 16 0x80A9)) (fun t =>
    t.a == 0x80 && t.p.n && t.pc == 2) = true := by decide

/-! ### One step of each mnemonic -/

theorem test_load_store :
    gives (step (start 0x00 0x00 0x00 0xFF 0x20 0x0200
      [(0x0200, 0xA9), (0x0201, 0x00)])) (fun t => -- 95 `A9 00`
      t.p.toByte false == 0x22 && t.pc == 0x0202) ∧
    gives (step (start 0x00 0x00 0x00 0xFF 0x20 0x0200
      [(0x0200, 0xAD), (0x0201, 0x34), (0x0202, 0x12), (0x1234, 0xFF)])) (fun t => -- 95 `AD 34 12`
      t.a == 0xFF && t.p.toByte false == 0xA0 && t.pc == 0x0203) ∧
    gives (step (start 0x00 0x00 0x90 0xFF 0x20 0x0200
      [(0x0010, 0x81), (0x0200, 0xB6), (0x0201, 0x80)])) (fun t => -- 95 `B6 80`
      t.x == 0x81 && t.p.toByte false == 0xA0 && t.pc == 0x0202) ∧
    gives (step (start 0x00 0xFF 0x00 0xFF 0x20 0x0200
      [(0x0200, 0xBC), (0x0201, 0x00), (0x0202, 0x40), (0x40FF, 0x00)])) (fun t => -- 95 `BC 00 40`
      t.p.toByte false == 0x22 && t.pc == 0x0203) ∧
    gives (step (start 0x34 0xE0 0x00 0xFF 0x20 0x0200
      [(0x0000, 0x00), (0x0001, 0x05), (0x0200, 0x81), (0x0201, 0x20)])) (fun t => -- 95 `81 20`
      t.p.toByte false == 0x20 && t.pc == 0x0202 && t.read 0x0500 == 0x34) ∧
    gives (step (start 0x00 0x11 0x02 0xFF 0x20 0x0200
      [(0x0200, 0x96), (0x0201, 0xFF)])) (fun t => -- 95 `96 FF`
      t.p.toByte false == 0x20 && t.pc == 0x0202 && t.read 0x0001 == 0x11) ∧
    gives (step (start 0x00 0x00 0x01 0xFF 0x20 0x0200
      [(0x0200, 0x8C), (0x0201, 0xFF), (0x0202, 0xFF)])) (fun t => -- 95 `8C FF FF`
      t.p.toByte false == 0x20 && t.pc == 0x0203 && t.read 0xFFFF == 0x01) := by decide

theorem test_transfer_stack :
    gives (step (start 0x80 0x00 0x00 0xFF 0x20 0x0200
      [(0x0200, 0xAA)])) (fun t => -- 95 `AA`
      t.x == 0x80 && t.p.toByte false == 0xA0 && t.pc == 0x0201) ∧
    gives (step (start 0x00 0x00 0x00 0xFF 0xA0 0x0200
      [(0x0200, 0xA8)])) (fun t => -- 95 `A8`
      t.p.toByte false == 0x22 && t.pc == 0x0201) ∧
    gives (step (start 0x00 0x00 0x00 0x00 0x20 0x0200
      [(0x0200, 0xBA)])) (fun t => -- 95 `BA`
      t.p.toByte false == 0x22 && t.pc == 0x0201) ∧
    gives (step (start 0x00 0x7F 0x00 0xFF 0xA2 0x0200
      [(0x0200, 0x8A)])) (fun t => -- 95 `8A`
      t.a == 0x7F && t.p.toByte false == 0x20 && t.pc == 0x0201) ∧
    gives (step (start 0x00 0x00 0x00 0xFF 0xA0 0x0200
      [(0x0200, 0x9A)])) (fun t => -- 95 `9A`
      t.sp == 0x00 && t.p.toByte false == 0xA0 && t.pc == 0x0201) ∧
    gives (step (start 0x00 0x00 0xFF 0xFF 0x20 0x0200
      [(0x0200, 0x98)])) (fun t => -- 95 `98`
      t.a == 0xFF && t.p.toByte false == 0xA0 && t.pc == 0x0201) ∧
    gives (step (start 0x11 0x00 0x00 0x00 0x20 0x0200
      [(0x0200, 0x48)])) (fun t => -- 95 `48`
      t.sp == 0xFF && t.p.toByte false == 0x20 && t.pc == 0x0201 && t.read 0x0100 == 0x11) ∧
    gives (step (start 0x00 0x00 0x00 0xFF 0x6E 0x0200
      [(0x0200, 0x08)])) (fun t => -- 95 `08`
      t.sp == 0xFE && t.p.toByte false == 0x6E && t.pc == 0x0201 && t.read 0x01FF == 0x7E) ∧
    gives (step (start 0x00 0x00 0x00 0xFF 0x20 0x0200
      [(0x0100, 0x80), (0x0200, 0x68)])) (fun t => -- 95 `68`
      t.a == 0x80 && t.sp == 0x00 && t.p.toByte false == 0xA0 && t.pc == 0x0201) ∧
    gives (step (start 0x00 0x00 0x00 0xFE 0x20 0x0200
      [(0x01FF, 0xFF), (0x0200, 0x28)])) (fun t => -- 95 `28`
      t.sp == 0xFF && t.p.toByte false == 0xEF && t.pc == 0x0201) ∧
    gives (step (start 0x00 0x00 0x00 0xFE 0xEF 0x0200
      [(0x01FF, 0x30), (0x0200, 0x28)])) (fun t => -- 95 `28`
      t.sp == 0xFF && t.p.toByte false == 0x20 && t.pc == 0x0201) := by decide

theorem test_logic_arith :
    gives (step (start 0xF0 0x00 0x00 0xFF 0x20 0x0200
      [(0x0200, 0x29), (0x0201, 0x0F)])) (fun t => -- 95 `29 0F`
      t.a == 0x00 && t.p.toByte false == 0x22 && t.pc == 0x0202) ∧
    gives (step (start 0x01 0x00 0x00 0xFF 0x20 0x0200
      [(0x0200, 0x09), (0x0201, 0x80)])) (fun t => -- 95 `09 80`
      t.a == 0x81 && t.p.toByte false == 0xA0 && t.pc == 0x0202) ∧
    gives (step (start 0x00 0x00 0x00 0xFF 0x20 0x0200
      [(0x0200, 0x49), (0x0201, 0xFF)])) (fun t => -- 95 `49 FF`
      t.a == 0xFF && t.p.toByte false == 0xA0 && t.pc == 0x0202) ∧
    gives (step (start 0x40 0x00 0x00 0xFF 0x20 0x0200
      [(0x0200, 0x2C), (0x0201, 0x00), (0x0202, 0x30), (0x3000, 0x40)])) (fun t => -- 95 `2C 00 30`
      t.p.toByte false == 0x60 && t.pc == 0x0203) ∧
    gives (step (start 0x7F 0x00 0x00 0xFF 0x20 0x0200
      [(0x0200, 0x69), (0x0201, 0x01)])) (fun t => -- 95 `69 01`
      t.a == 0x80 && t.p.toByte false == 0xE0 && t.pc == 0x0202) ∧
    gives (step (start 0xFF 0x00 0x00 0xFF 0x21 0x0200
      [(0x0200, 0x69), (0x0201, 0x00)])) (fun t => -- 95 `69 00`
      t.a == 0x00 && t.p.toByte false == 0x23 && t.pc == 0x0202) ∧
    gives (step (start 0x00 0x00 0x00 0xFF 0x21 0x0200
      [(0x0200, 0xE9), (0x0201, 0x01)])) (fun t => -- 95 `E9 01`
      t.a == 0xFF && t.p.toByte false == 0xA0 && t.pc == 0x0202) ∧
    gives (step (start 0x40 0x00 0x00 0xFF 0x21 0x0200
      [(0x0200, 0xE9), (0x0201, 0x40)])) (fun t => -- 95 `E9 40`
      t.a == 0x00 && t.p.toByte false == 0x23 && t.pc == 0x0202) ∧
    gives (step (start 0x00 0x00 0x00 0xFF 0x20 0x0200
      [(0x0200, 0xC9), (0x0201, 0xFF)])) (fun t => -- 95 `C9 FF`
      t.p.toByte false == 0x20 && t.pc == 0x0202) ∧
    gives (step (start 0x00 0x00 0x00 0xFF 0x20 0x0200
      [(0x0010, 0x01), (0x0200, 0xE4), (0x0201, 0x10)])) (fun t => -- 95 `E4 10`
      t.p.toByte false == 0xA0 && t.pc == 0x0202) ∧
    gives (step (start 0x00 0x00 0x7F 0xFF 0x20 0x0200
      [(0x0200, 0xCC), (0x0201, 0x00), (0x0202, 0x20), (0x2000, 0x80)])) (fun t => -- 95 `CC 00 20`
      t.p.toByte false == 0xA0 && t.pc == 0x0203) := by decide

theorem test_shift_incdec :
    gives (step (start 0x00 0x00 0x00 0xFF 0x20 0x0200
      [(0x0010, 0xFF), (0x0200, 0x06), (0x0201, 0x10)])) (fun t => -- 95 `06 10`
      t.p.toByte false == 0xA1 && t.pc == 0x0202 && t.read 0x0010 == 0xFE) ∧
    gives (step (start 0x00 0x01 0x00 0xFF 0x20 0x0200
      [(0x0200, 0x5E), (0x0201, 0xFF), (0x0202, 0x02), (0x0300, 0x02)])) (fun t => -- 95 `5E FF 02`
      t.p.toByte false == 0x20 && t.pc == 0x0203 && t.read 0x0300 == 0x01) ∧
    gives (step (start 0x80 0x00 0x00 0xFF 0x20 0x0200
      [(0x0200, 0x2A)])) (fun t => -- 95 `2A`
      t.a == 0x00 && t.p.toByte false == 0x23 && t.pc == 0x0201) ∧
    gives (step (start 0x00 0x00 0x00 0xFF 0x21 0x0200
      [(0x0200, 0x2A)])) (fun t => -- 95 `2A`
      t.a == 0x01 && t.p.toByte false == 0x20 && t.pc == 0x0201) ∧
    gives (step (start 0x01 0x00 0x00 0xFF 0x20 0x0200
      [(0x0200, 0x6A)])) (fun t => -- 95 `6A`
      t.a == 0x00 && t.p.toByte false == 0x23 && t.pc == 0x0201) ∧
    gives (step (start 0x00 0x00 0x00 0xFF 0x21 0x0200
      [(0x0200, 0x6A)])) (fun t => -- 95 `6A`
      t.a == 0x80 && t.p.toByte false == 0xA0 && t.pc == 0x0201) ∧
    gives (step (start 0x00 0x10 0x00 0xFF 0x61 0x0200
      [(0x0200, 0xFE), (0x0201, 0x00), (0x0202, 0x30), (0x3010, 0x00)])) (fun t => -- 95 `FE 00 30`
      t.p.toByte false == 0x61 && t.pc == 0x0203 && t.read 0x3010 == 0x01) ∧
    gives (step (start 0x00 0x00 0x00 0xFF 0x20 0x0200
      [(0x0200, 0xCE), (0x0201, 0x00), (0x0202, 0x30), (0x3000, 0x80)])) (fun t => -- 95 `CE 00 30`
      t.p.toByte false == 0x20 && t.pc == 0x0203 && t.read 0x3000 == 0x7F) ∧
    gives (step (start 0x00 0x7F 0x00 0xFF 0x20 0x0200
      [(0x0200, 0xE8)])) (fun t => -- 95 `E8`
      t.x == 0x80 && t.p.toByte false == 0xA0 && t.pc == 0x0201) ∧
    gives (step (start 0x00 0x00 0xFF 0xFF 0x21 0x0200
      [(0x0200, 0xC8)])) (fun t => -- 95 `C8`
      t.y == 0x00 && t.p.toByte false == 0x23 && t.pc == 0x0201) ∧
    gives (step (start 0x00 0x01 0x00 0xFF 0x20 0x0200
      [(0x0200, 0xCA)])) (fun t => -- 95 `CA`
      t.x == 0x00 && t.p.toByte false == 0x22 && t.pc == 0x0201) ∧
    gives (step (start 0x00 0x00 0x80 0xFF 0x20 0x0200
      [(0x0200, 0x88)])) (fun t => -- 95 `88`
      t.y == 0x7F && t.p.toByte false == 0x20 && t.pc == 0x0201) := by decide

theorem test_branch_jump :
    gives (step (start 0x00 0x00 0x00 0xFF 0x21 0x0200
      [(0x0200, 0x90), (0x0201, 0x05)])) (fun t => -- 95 `90 05`
      t.p.toByte false == 0x21 && t.pc == 0x0202) ∧
    gives (step (start 0x00 0x00 0x00 0xFF 0x21 0x0200
      [(0x0200, 0xB0), (0x0201, 0xFE)])) (fun t => -- 95 `B0 FE`
      t.p.toByte false == 0x21 && t.pc == 0x0200) ∧
    gives (step (start 0x00 0x00 0x00 0xFF 0x22 0x0001
      [(0x0001, 0xF0), (0x0002, 0xFC)])) (fun t => -- 95 `F0 FC`
      t.p.toByte false == 0x22 && t.pc == 0xFFFF) ∧
    gives (step (start 0x00 0x00 0x00 0xFF 0xA0 0x0200
      [(0x0200, 0x30), (0x0201, 0xFB)])) (fun t => -- 95 `30 FB`
      t.p.toByte false == 0xA0 && t.pc == 0x01FD) ∧
    gives (step (start 0x00 0x00 0x00 0xFF 0x20 0x0200
      [(0x0200, 0xD0), (0x0201, 0x80)])) (fun t => -- 95 `D0 80`
      t.p.toByte false == 0x20 && t.pc == 0x0182) ∧
    gives (step (start 0x00 0x00 0x00 0xFF 0x20 0x0200
      [(0x0200, 0xD0), (0x0201, 0x7F)])) (fun t => -- 95 `D0 7F`
      t.p.toByte false == 0x20 && t.pc == 0x0281) ∧
    gives (step (start 0x00 0x00 0x00 0xFF 0x20 0x02F0
      [(0x02F0, 0x10), (0x02F1, 0x10)])) (fun t => -- 95 `10 10`
      t.p.toByte false == 0x20 && t.pc == 0x0302) ∧
    gives (step (start 0x00 0x00 0x00 0xFF 0x20 0x0200
      [(0x0200, 0x50), (0x0201, 0x02)])) (fun t => -- 95 `50 02`
      t.p.toByte false == 0x20 && t.pc == 0x0204) ∧
    gives (step (start 0x00 0x00 0x00 0xFF 0x60 0x0200
      [(0x0200, 0x70), (0x0201, 0x02)])) (fun t => -- 95 `70 02`
      t.p.toByte false == 0x60 && t.pc == 0x0204) ∧
    gives (step (start 0x00 0x00 0x00 0xFF 0x20 0x0200
      [(0x0200, 0x6C), (0x0201, 0x00), (0x0202, 0x30), (0x3000, 0x78), (0x3001, 0x56)])) (fun t => -- 95 `6C 00 30`
      t.p.toByte false == 0x20 && t.pc == 0x5678) ∧
    gives (step (start 0x00 0x00 0x00 0xFF 0x20 0xFFFE
      [(0x0000, 0x00), (0xFFFE, 0x20), (0xFFFF, 0x10)])) (fun t => -- 95 `20 10 00`
      t.sp == 0xFD && t.p.toByte false == 0x20 && t.pc == 0x0010 && t.read 0x01FF == 0x00 &&
      t.read 0x01FE == 0x00) ∧
    gives (step (start 0x00 0x00 0x00 0xFF 0x20 0x0200
      [(0x0100, 0x33), (0x0101, 0x44), (0x0200, 0x60)])) (fun t => -- 95 `60`
      t.sp == 0x01 && t.p.toByte false == 0x20 && t.pc == 0x4434) := by decide

theorem test_flags_system :
    gives (step (start 0x00 0x00 0x00 0xFF 0x21 0x0200
      [(0x0200, 0x18)])) (fun t => -- 95 `18`
      t.p.toByte false == 0x20 && t.pc == 0x0201) ∧
    gives (step (start 0x00 0x00 0x00 0xFF 0x28 0x0200
      [(0x0200, 0xD8)])) (fun t => -- 95 `D8`
      t.p.toByte false == 0x20 && t.pc == 0x0201) ∧
    gives (step (start 0x00 0x00 0x00 0xFF 0x24 0x0200
      [(0x0200, 0x58)])) (fun t => -- 95 `58`
      t.p.toByte false == 0x20 && t.pc == 0x0201) ∧
    gives (step (start 0x00 0x00 0x00 0xFF 0xE0 0x0200
      [(0x0200, 0xB8)])) (fun t => -- 95 `B8`
      t.p.toByte false == 0xA0 && t.pc == 0x0201) ∧
    gives (step (start 0x00 0x00 0x00 0xFF 0x20 0x0200
      [(0x0200, 0x38)])) (fun t => -- 95 `38`
      t.p.toByte false == 0x21 && t.pc == 0x0201) ∧
    gives (step (start 0x00 0x00 0x00 0xFF 0x20 0x0200
      [(0x0200, 0xF8)])) (fun t => -- 95 `F8`
      t.p.toByte false == 0x28 && t.pc == 0x0201) ∧
    gives (step (start 0x00 0x00 0x00 0xFF 0x20 0x0200
      [(0x0200, 0x78)])) (fun t => -- 95 `78`
      t.p.toByte false == 0x24 && t.pc == 0x0201) ∧
    gives (step (start 0x00 0x01 0x00 0xFF 0x20 0x0200
      [(0x0200, 0x1C), (0x0201, 0xFF), (0x0202, 0x02)])) (fun t => -- 95 `1C FF 02`
      t.p.toByte false == 0x20 && t.pc == 0x0203) ∧
    gives (step (start 0x00 0x00 0x00 0xFF 0x62 0xFFFD
      [(0xFFFD, 0x00), (0xFFFE, 0xCD), (0xFFFF, 0xAB)])) (fun t => -- 95 `00`
      t.sp == 0xFC && t.p.toByte false == 0x66 && t.pc == 0xABCD && t.read 0x01FF == 0xFF &&
      t.read 0x01FE == 0xFF && t.read 0x01FD == 0x72) ∧
    gives (step (start 0x00 0x00 0x00 0xFE 0x24 0x0200
      [(0x0100, 0x34), (0x0101, 0x12), (0x01FF, 0xCF), (0x0200, 0x40)])) (fun t => -- 95 `40`
      t.sp == 0x01 && t.p.toByte false == 0xEF && t.pc == 0x1234) := by decide

theorem test_undocumented_memory :
    gives (step (start 0x01 0x00 0x00 0xFF 0x20 0x0200
      [(0x0010, 0x81), (0x0200, 0x07), (0x0201, 0x10)])) (fun t => -- 95 `07 10`
      t.a == 0x03 && t.p.toByte false == 0x21 && t.pc == 0x0202 && t.read 0x0010 == 0x02) ∧
    gives (step (start 0xFF 0x00 0x00 0xFF 0x21 0x0200
      [(0x0010, 0x40), (0x0200, 0x27), (0x0201, 0x10)])) (fun t => -- 95 `27 10`
      t.a == 0x81 && t.p.toByte false == 0xA0 && t.pc == 0x0202 && t.read 0x0010 == 0x81) ∧
    gives (step (start 0xFF 0x00 0x00 0xFF 0x20 0x0200
      [(0x0010, 0x03), (0x0200, 0x47), (0x0201, 0x10)])) (fun t => -- 95 `47 10`
      t.a == 0xFE && t.p.toByte false == 0xA1 && t.pc == 0x0202 && t.read 0x0010 == 0x01) ∧
    gives (step (start 0x10 0x00 0x00 0xFF 0x21 0x0200
      [(0x0010, 0x02), (0x0200, 0x67), (0x0201, 0x10)])) (fun t => -- 95 `67 10`
      t.a == 0x91 && t.p.toByte false == 0xA0 && t.pc == 0x0202 && t.read 0x0010 == 0x81) ∧
    gives (step (start 0x10 0x00 0x00 0xFF 0x20 0x0200
      [(0x0010, 0x11), (0x0200, 0xC7), (0x0201, 0x10)])) (fun t => -- 95 `C7 10`
      t.p.toByte false == 0x23 && t.pc == 0x0202 && t.read 0x0010 == 0x10) ∧
    gives (step (start 0x10 0x00 0x00 0xFF 0x21 0x0200
      [(0x0010, 0x0F), (0x0200, 0xE7), (0x0201, 0x10)])) (fun t => -- 95 `E7 10`
      t.a == 0x00 && t.p.toByte false == 0x23 && t.pc == 0x0202 && t.read 0x0010 == 0x10) ∧
    gives (step (start 0xF0 0x3C 0x00 0xFF 0xA0 0x0200
      [(0x0200, 0x87), (0x0201, 0x10)])) (fun t => -- 95 `87 10`
      t.p.toByte false == 0xA0 && t.pc == 0x0202 && t.read 0x0010 == 0x30) ∧
    gives (step (start 0x00 0x00 0x01 0xFF 0x20 0x0200
      [(0x0020, 0xFF), (0x0021, 0x02), (0x0200, 0xB3), (0x0201, 0x20), (0x0300, 0x00)])) (fun t => -- 95 `B3 20`
      t.p.toByte false == 0x22 && t.pc == 0x0202) := by decide

theorem test_undocumented_other :
    gives (step (start 0x01 0x00 0x00 0xFF 0x20 0x0200
      [(0x0200, 0xF2)])) (fun t => -- 95 `F2`
      t.p.toByte false == 0x20 && t.pc == 0x0200 && t.stopped) ∧
    gives (step (start 0xFF 0x00 0x00 0xFF 0x21 0x0200
      [(0x0200, 0x2B), (0x0201, 0x7F)])) (fun t => -- 95 `2B 7F`
      t.a == 0x7F && t.p.toByte false == 0x20 && t.pc == 0x0202) ∧
    gives (step (start 0xFF 0x00 0x00 0xFF 0x20 0x0200
      [(0x0200, 0x4B), (0x0201, 0x03)])) (fun t => -- 95 `4B 03`
      t.a == 0x01 && t.p.toByte false == 0x21 && t.pc == 0x0202) ∧
    gives (step (start 0x40 0x00 0x00 0xFF 0x20 0x0200
      [(0x0200, 0x6B), (0x0201, 0xFF)])) (fun t => -- 95 `6B FF`
      t.a == 0x20 && t.p.toByte false == 0x60 && t.pc == 0x0202) ∧
    gives (step (start 0x0F 0xF0 0x00 0xFF 0x20 0x0200
      [(0x0200, 0xCB), (0x0201, 0x10)])) (fun t => -- 95 `CB 10`
      t.p.toByte false == 0xA0 && t.pc == 0x0202) ∧
    gives (step (start 0x00 0x00 0x00 0xF0 0x20 0x0200
      [(0x0200, 0xBB), (0x0201, 0x00), (0x0202, 0x30), (0x3000, 0x8F)])) (fun t => -- 95 `BB 00 30`
      t.a == 0x80 && t.x == 0x80 && t.sp == 0x80 && t.p.toByte false == 0xA0 && t.pc == 0x0203) ∧
    gives (step (start 0xFF 0xFF 0x01 0xFF 0x20 0x0200
      [(0x0010, 0x00), (0x0011, 0x30), (0x0200, 0x93), (0x0201, 0x10)])) (fun t => -- 95 `93 10`
      t.p.toByte false == 0x20 && t.pc == 0x0202 && t.read 0x3001 == 0x31) ∧
    gives (step (start 0xF5 0x3F 0x02 0xFF 0x20 0x0200
      [(0x0200, 0x9B), (0x0201, 0x00), (0x0202, 0x30)])) (fun t => -- 95 `9B 00 30`
      t.sp == 0x35 && t.p.toByte false == 0x20 && t.pc == 0x0203 && t.read 0x3002 == 0x31) ∧
    gives (step (start 0x00 0x01 0xFF 0xFF 0x20 0x0200
      [(0x0200, 0x9C), (0x0201, 0x00), (0x0202, 0x30)])) (fun t => -- 95 `9C 00 30`
      t.p.toByte false == 0x20 && t.pc == 0x0203 && t.read 0x3001 == 0x31) ∧
    gives (step (start 0x00 0xFF 0x01 0xFF 0x20 0x0200
      [(0x0200, 0x9E), (0x0201, 0x00), (0x0202, 0x30)])) (fun t => -- 95 `9E 00 30`
      t.p.toByte false == 0x20 && t.pc == 0x0203 && t.read 0x3001 == 0x31) := by decide

/-! ### Parameters, interrupts, reset, STP -/

/-- `95`, `nmos_bcd`: 58 + 46 + 1 = 105 (C = 1), 12 - 21 = -9 (C = 0). -/
theorem test_decimal : (adcDecimal 0x58 0x46 true).a = 0x05 ∧ (adcDecimal 0x58 0x46 true).c = true ∧
    (sbcDecimal 0x12 0x21 true).a = 0x91 ∧ (sbcDecimal 0x12 0x21 true).c = false := by decide

/-- R90: the pointer at $02FF, without and with the page wrap. -/
theorem test_jmp_indirect_wrap :
    let s := start 0 0 0 0xFF 0x20 0x0200 [(0x0200, 0x44), (0x02FF, 0x33), (0x0300, 0x55)]
    ({ s with settings := given .binary false .stableOnly 0 [] } : State).readInd16 0x02FF = 0x5533 ∧
      ({ s with settings := given .binary true .stableOnly 0 [] } : State).readInd16 0x02FF = 0x4433 := by decide

/-- R171 at `exec`: 58 + 46 + 1 with D = 1 in each of the three modes. -/
theorem test_decimal_mode_at_exec :
    let s := fun mode => { start 0x58 0 0 0xFF 0x29 0x0200 [] with settings := given mode false .refuseAll 0 [] }
    gives (exec (.adcImm 0x46) (s .binary)) (fun t => t.a == 0x9F && !t.p.c) = true ∧
    gives (exec (.adcImm 0x46) (s .nmosBcd)) (fun t => t.a == 0x05 && t.p.c) = true ∧
    refusal (exec (.adcImm 0x46) (s .refuse)) = some .decimalModeRefused := by decide

/-- R270 at `exec`: $EB, SLO, STP and XAA under the three policies. -/
theorem test_policy_at_exec :
    let s := fun policy => { start 0xFF 0 0 0xFF 0x21 0x0200 [] with settings := given .binary false policy 0 [] }
    (refusal (exec (.sbcImmEB 0x01) (s .refuseAll)) = some .undocumentedCell ∧
      refusal (exec (.sloZp 0x10) (s .refuseAll)) = some .undocumentedCell ∧
      refusal (exec .stp02 (s .refuseAll)) = some .undocumentedCell ∧
      refusal (exec .nop (s .refuseAll)) = none) ∧
    (gives (exec (.sbcImmEB 0x01) (s .stableOnly)) (fun t => t.a == 0xFE) = true ∧
      refusal (exec (.xaaImm 0x01) (s .stableOnly)) = some .undocumentedCell) ∧
    gives (exec (.xaaImm 0x01) (s .allWithMagic)) (fun t => t.a == 0x00) = true := by decide

/-- R64, D12: a store to RAM is read back, a store to ROM or a device changes nothing. -/
theorem test_platform :
    let s := { start 0x55 0 0 0xFF 0x20 0x0000 [(0xE000, 0x77)] with settings := board }
    (s.kindAt 0x0010 = .ram ∧ s.kindAt 0xD000 = .device ∧ s.kindAt 0xE000 = .rom ∧ s.kindAt 0x8000 = .nothing) ∧
    gives (exec (.staZp 0x10) s) (fun t => t.read 0x0010 == 0x55) = true ∧
    gives (exec (.staAbs 0xE000) s) (fun t => t.read 0xE000 == 0x77 && t.pc == 0x0003) = true ∧
    gives (exec (.staAbs 0xD000) s) (fun t => t.mem == s.mem && t.pc == 0x0003) = true := by decide

/-- R64, U15: LDA of a device or of an empty address completes with the free byte of the step. -/
theorem test_platform_open_read (n : Nat) :
    let s := { start 0 0 0 0xFF 0x20 0x0000 [] with settings := board, steps := n }
    exec (.ldaAbs 0xD000) s = opLda (.abs 0xD000) s ∧ (MemOperand.abs 0xD000).value s = Config.openRead n 0xD000 ∧
      (MemOperand.abs 0x8000).value s = Config.openRead n 0x8000 := ⟨rfl, rfl, rfl⟩

/-- A placed word is fetched even where no memory lies. -/
theorem test_withFetchWord_platform :
    gives (step (({ State.reset with settings := board, pc := 0x8000 } : State).withFetchWord 16 0x80A9)) (fun t =>
      t.a == 0x80 && t.pc == 0x8002) = true := by decide

/-- `96`, I1 step 3: the IRQ entry pushes $0202 and P with B = 0. -/
theorem test_irq_entry : gives (step { start 0 0 0 0xFF 0x20 0x0202 [(0xFFFF, 0x90)] with irqLine := true }) (fun t =>
    t.pc == 0x9000 && t.sp == 0xFC && t.p.i && t.read 0x01FF == 0x02 && t.read 0x01FE == 0x02 &&
      t.read 0x01FD == 0x20 && t.iForPoll) = true := by decide

/-- R335, R337: an NMI edge goes before an asserted IRQ line, and its latch is cleared. -/
theorem test_nmi_first : gives (step { start 0 0 0 0xFF 0x20 0x0202 [(0xFFFB, 0xA0)] with
      inputs := [{ irqLine := true, nmiEdge := true, reset := false }] }) (fun t =>
    t.pc == 0xA000 && !t.nmiPending && t.irqLine && t.inputs.isEmpty) = true := by decide

/-- R271, R333: a stopped machine is stuck, and a reset frees it. -/
theorem test_stopped : fault (step { start 0 0 0 0xFF 0x20 0x0200 [] with
      stopped := true, nmiPending := true }) = some .stuck ∧
    gives (step { start 0 0 0 0xFF 0x20 0x0200 [(0xFFFD, 0x80)] with
        stopped := true, inputs := [{ irqLine := false, nmiEdge := false, reset := true }] }) (fun t =>
      t.pc == 0x8000 && !t.stopped && t.p.i) = true := by decide

/-- R290, U9: AHX whose index crosses a page is refused. -/
theorem test_ahx_crossing : refusal (step (start 0xFF 0xFF 0x01 0xFF 0x20 0x0200
      [(0x0200, 0x9F), (0x0201, 0xFF), (0x0202, 0x03)])) = some .unstableStoreCrossesPage := by decide

/-- R288, R289: with A = $FF the result does not depend on MAGIC: XAA leaves X AND i, LAX #i leaves i. -/
theorem test_magic_cells (m : Byte) :
    let k := given .binary false .allWithMagic m []
    gives (exec (.xaaImm 0xF0) { start 0xFF 0x9C 0 0xFF 0x20 0x0200 [] with settings := k }) (fun t =>
      t.a == 0x90 && t.p.n) = true ∧
    gives (exec (.laxImm 0x05) { start 0xFF 0 0 0xFF 0x20 0x0200 [] with settings := k }) (fun t =>
      t.a == 0x05 && t.x == 0x05) = true := by
  revert m
  decide

/-! ### Witnesses: for each statement with hypotheses, values that meet them -/

theorem witness_LoadsWriteTheirRegister :
    ((Instr.ldaAbsX 0xFFFF).mnemonic = .LDA ∧ (Instr.ldaAbsX 0xFFFF).operand = .mem (.absX 0xFFFF)) ∧
    ((Instr.ldxAbsY 0xFFFF).mnemonic = .LDX ∧ (Instr.ldxAbsY 0xFFFF).operand = .mem (.absY 0xFFFF)) ∧
    ((Instr.ldyAbsX 0xFFFF).mnemonic = .LDY ∧ (Instr.ldyAbsX 0xFFFF).operand = .mem (.absX 0xFFFF)) := by decide

theorem witness_StoresWriteOneByteAtTheEffectiveAddress :
    ((Instr.staAbsX 0xFFFF).mnemonic = .STA ∧ (Instr.staAbsX 0xFFFF).operand = .mem (.absX 0xFFFF)) ∧
    ((Instr.stxZpY 0xFF).mnemonic = .STX ∧ (Instr.stxZpY 0xFF).operand = .mem (.zpY 0xFF)) ∧
    ((Instr.styZpX 0xFF).mnemonic = .STY ∧ (Instr.styZpX 0xFF).operand = .mem (.zpX 0xFF)) ∧
    (let s := start 0 0 0 0xFF 0x20 0x0200 []
    s.writable ((MemOperand.absX 0xFFFF).ea s) = true) ∧
    (let s := start 0 0 0 0xFF 0x20 0x0200 []
    s.writable ((MemOperand.zpY 0xFF).ea s) = true) ∧
    (let s := start 0 0 0 0xFF 0x20 0x0200 []
    s.writable ((MemOperand.zpX 0xFF).ea s) = true) := by decide

theorem witness_LogicCombinesAWithTheOperand :
    ((Instr.andAbsX 0xFFFF).mnemonic = .AND ∧ (Instr.andAbsX 0xFFFF).operand = .mem (.absX 0xFFFF)) ∧
    ((Instr.oraAbsX 0xFFFF).mnemonic = .ORA ∧ (Instr.oraAbsX 0xFFFF).operand = .mem (.absX 0xFFFF)) ∧
    ((Instr.eorAbsX 0xFFFF).mnemonic = .EOR ∧ (Instr.eorAbsX 0xFFFF).operand = .mem (.absX 0xFFFF)) := by decide

theorem witness_BitTestsAAgainstTheOperand :
    ((Instr.bitAbs 0xFFFF).mnemonic = .BIT ∧ (Instr.bitAbs 0xFFFF).operand = .mem (.abs 0xFFFF)) := by decide

theorem witness_AdcAddsInBinary :
    ((Instr.adcAbsX 0xFFFF).mnemonic = .ADC ∧ (Instr.adcAbsX 0xFFFF).operand = .mem (.absX 0xFFFF)) ∧
    (start 0xFF 0xFF 0xFF 0xFF 0x21 0xFFFF []).p.d = false := by decide

theorem witness_SbcSubtractsInBinary :
    ((Instr.sbcAbsX 0xFFFF).mnemonic = .SBC ∧ (Instr.sbcAbsX 0xFFFF).operand = .mem (.absX 0xFFFF)) ∧
    (start 0x00 0xFF 0xFF 0xFF 0x20 0xFFFF []).p.d = false ∧
    ((Instr.sbcImmEB 0xFF).mnemonic = .SBC ∧ (Instr.sbcImmEB 0xFF).operand = .mem (.imm 0xFF) ∧
      (Instr.sbcImmEB 0xFF).opcode = 0xEB) ∧
    (start 0 0 0 0xFF 0x20 0x0200 []).params.undocPolicy ≠ .refuseAll := by decide

theorem witness_AdcAndSbcByDecimalMode :
    ((Instr.adcAbsX 0xFFFF).mnemonic = .ADC ∧ (Instr.adcAbsX 0xFFFF).operand = .mem (.absX 0xFFFF)) ∧
    ((Instr.sbcAbsX 0xFFFF).mnemonic = .SBC ∧ (Instr.sbcAbsX 0xFFFF).operand = .mem (.absX 0xFFFF)) ∧
    (let s := fun mode => { start 0 0 0 0xFF 0x28 0x0200 [] with settings := given mode false .stableOnly 0 [] }
    ((s .nmosBcd).p.d = true ∧ (s .nmosBcd).params.decimalMode ≠ .refuse) ∧
      ((s .refuse).p.d = true ∧ (s .refuse).params.decimalMode = .refuse ∧
        (s .refuse).params.undocPolicy ≠ .refuseAll)) ∧
    resetSettings.decimalMode = none := by decide

theorem witness_DecimalModeSelectsTheAlgorithm :
    (let s := { start 0x99 0 0 0xFF 0x28 0x0200 [] with settings := given .refuse false .stableOnly 0 [] }
    s.params.decimalMode = .refuse ∧ s.p.d = true) := by decide

theorem witness_DecimalArithmeticIsRightOnDigits : (9 < 10 ∧ 0 < 10 ∧ 9 < 10 ∧ 0 < 10) ∧
    (adcDecimal 0x90 0x90 false).a = 0x80 := by decide

theorem witness_ComparesSetCarryZeroNegative :
    ((Instr.cmpAbsX 0xFFFF).mnemonic = .CMP ∧ (Instr.cmpAbsX 0xFFFF).operand = .mem (.absX 0xFFFF)) ∧
    ((Instr.cpxAbs 0xFFFF).mnemonic = .CPX ∧ (Instr.cpxAbs 0xFFFF).operand = .mem (.abs 0xFFFF)) ∧
    ((Instr.cpyAbs 0xFFFF).mnemonic = .CPY ∧ (Instr.cpyAbs 0xFFFF).operand = .mem (.abs 0xFFFF)) := by decide

theorem witness_ShiftsMoveOneBitIntoCarry :
    ((Instr.aslAbsX 0xFFFF).mnemonic = .ASL ∧ (Instr.aslAbsX 0xFFFF).operand = .mem (.absX 0xFFFF)) ∧
    ((Instr.lsrAbsX 0xFFFF).mnemonic = .LSR ∧ (Instr.lsrAbsX 0xFFFF).operand = .mem (.absX 0xFFFF)) ∧
    (let s := start 0 0 0 0xFF 0x20 0x0200 []
    s.writable ((MemOperand.absX 0xFFFF).ea s) = true) ∧
    (let s := start 0 0 0 0xFF 0x20 0x0200 []
    s.writable ((MemOperand.absX 0xFFFF).ea s) = true) := by decide

theorem witness_RotatesTurnThroughCarry :
    ((Instr.rolAbsX 0xFFFF).mnemonic = .ROL ∧ (Instr.rolAbsX 0xFFFF).operand = .mem (.absX 0xFFFF)) ∧
    ((Instr.rorAbsX 0xFFFF).mnemonic = .ROR ∧ (Instr.rorAbsX 0xFFFF).operand = .mem (.absX 0xFFFF)) ∧
    (let s := start 0 0 0 0xFF 0x20 0x0200 []
    s.writable ((MemOperand.absX 0xFFFF).ea s) = true) ∧
    (let s := start 0 0 0 0xFF 0x20 0x0200 []
    s.writable ((MemOperand.absX 0xFFFF).ea s) = true) := by decide

theorem witness_IncrementsAndDecrementsWrap :
    ((Instr.incAbsX 0xFFFF).mnemonic = .INC ∧ (Instr.incAbsX 0xFFFF).operand = .mem (.absX 0xFFFF)) ∧
    ((Instr.decAbsX 0xFFFF).mnemonic = .DEC ∧ (Instr.decAbsX 0xFFFF).operand = .mem (.absX 0xFFFF)) ∧
    (let s := start 0 0 0 0xFF 0x20 0x0200 []
    s.writable ((MemOperand.absX 0xFFFF).ea s) = true) ∧
    (let s := start 0 0 0 0xFF 0x20 0x0200 []
    s.writable ((MemOperand.absX 0xFFFF).ea s) = true) := by decide

theorem witness_JumpsSetPC : lo 0x02FF = 0xFF ∧
    (let s := fun wrap => { State.reset with settings := given .binary wrap .refuseAll 0 [] }
    (s false).params.jmpIndPageWrap = false ∧ (s true).params.jmpIndPageWrap = true) := by decide

theorem witness_CallAndReturnUseTheStack : (0x0200 : Addr) ≠ join 0x01 0x00 ∧
    (0x0200 : Addr) ≠ join 0x01 (0x00 - 1) ∧
    (let s := start 0 0 0 0x00 0x20 0x0200 []
    s.writable (join 0x01 s.sp) = true ∧ s.writable (join 0x01 (s.sp - 1)) = true) := by decide

theorem witness_StackInstructionsPushAndPull : ((0x0200 : Addr) ≠ join 0x01 0x00 ∧ (0x00FF : Addr) ≠ join 0x01 0x00) ∧
    (start 0 0 0 0x00 0x20 0x0200 []).writable (join 0x01 0x00) = true := by decide

/-- An address outside the three bytes, S = $00. -/
theorem witness_BrkEntersTheHandler : (0x0200 : Addr) ≠ join 0x01 0x00 ∧ (0x0200 : Addr) ≠ join 0x01 (0x00 - 1) ∧
    (0x0200 : Addr) ≠ join 0x01 (0x00 - 2) ∧
    (let s := start 0 0 0 0x00 0x20 0x0200 []
    s.writable (join 0x01 s.sp) = true ∧ s.writable (join 0x01 (s.sp - 1)) = true ∧
      s.writable (join 0x01 (s.sp - 2)) = true) := by decide

theorem witness_SavedStatusIsRestored : (0x0101 : Addr) ≠ join 0x01 0x00 ∧ (0x0101 : Addr) ≠ join 0x01 (0x00 - 1) ∧
    (0x0101 : Addr) ≠ join 0x01 (0x00 - 2) ∧
    (let s := start 0 0 0 0x00 0x20 0x0200 []
    s.writable (join 0x01 s.sp) = true ∧ s.writable (join 0x01 (s.sp - 1)) = true ∧
      s.writable (join 0x01 (s.sp - 2)) = true) := by decide

theorem witness_SubroutineReturnsAfterTheCall : (0x0101 : Addr) ≠ join 0x01 0x00 ∧
    (0x0101 : Addr) ≠ join 0x01 (0x00 - 1) ∧
    (let s := start 0 0 0 0x00 0x20 0x0200 []
    s.writable (join 0x01 s.sp) = true ∧ s.writable (join 0x01 (s.sp - 1)) = true) := by decide

theorem witness_NopsOnlyAdvancePC : (Instr.nop).mnemonic = .NOP ∧ (Instr.nopAbsXFC 0xFFFF).mnemonic = .NOP ∧
    Instr.nopAbsXFC 0xFFFF ≠ .nop ∧ State.reset.params.undocPolicy ≠ .refuseAll := by decide

/-- A stopped state, an empty environment, and a reset request. -/
theorem witness_StpStopsTheMachineUntilReset : (Instr.stpF2).mnemonic = .STP ∧
    State.reset.params.undocPolicy ≠ .refuseAll ∧
    (let s := { State.reset with stopped := true }
    s.stopped = true ∧ s.resetRequested = false) ∧
    (let s := { State.reset with
      stopped := true, inputs := [{ irqLine := true, nmiEdge := true, reset := true }] }
    s.resetRequested = true) := by decide

theorem witness_ShiftAndCombineCells :
    ((Instr.sloAbsX 0xFFFF).mnemonic = .SLO ∧ (Instr.sloAbsX 0xFFFF).operand = .mem (.absX 0xFFFF)) ∧
    ((Instr.rlaAbsX 0xFFFF).mnemonic = .RLA ∧ (Instr.rlaAbsX 0xFFFF).operand = .mem (.absX 0xFFFF)) ∧
    ((Instr.sreAbsX 0xFFFF).mnemonic = .SRE ∧ (Instr.sreAbsX 0xFFFF).operand = .mem (.absX 0xFFFF)) ∧
    (let s := start 0 0 0 0xFF 0x20 0x0200 []
    s.writable ((MemOperand.absX 0xFFFF).ea s) = true) ∧
    (start 0 0 0 0xFF 0x20 0x0200 []).params.undocPolicy ≠ .refuseAll := by decide

theorem witness_RotateThenAddAndIncrementThenSubtract :
    ((Instr.rraAbsX 0xFFFF).mnemonic = .RRA ∧ (Instr.rraAbsX 0xFFFF).operand = .mem (.absX 0xFFFF)) ∧
    ((Instr.iscAbsX 0xFFFF).mnemonic = .ISC ∧ (Instr.iscAbsX 0xFFFF).operand = .mem (.absX 0xFFFF)) ∧
    (let s := start 0 0 0 0xFF 0x20 0x0200 []
    s.writable ((MemOperand.absX 0xFFFF).ea s) = true) ∧
    (let s := fun mode => { start 0 0 0 0xFF 0x28 0x0200 [] with settings := given mode false .stableOnly 0 [] }
    ((s .nmosBcd).params.undocPolicy ≠ .refuseAll ∧ (s .nmosBcd).params.decimalMode ≠ .refuse) ∧
      ((s .refuse).params.undocPolicy ≠ .refuseAll ∧ (s .refuse).p.d = true ∧
        (s .refuse).params.decimalMode = .refuse)) := by decide

theorem witness_DecrementCompareStoreAndLoadCells :
    ((Instr.dcpAbsX 0xFFFF).mnemonic = .DCP ∧ (Instr.dcpAbsX 0xFFFF).operand = .mem (.absX 0xFFFF)) ∧
    ((Instr.saxZpY 0xFF).mnemonic = .SAX ∧ (Instr.saxZpY 0xFF).operand = .mem (.zpY 0xFF)) ∧
    ((Instr.laxAbsY 0xFFFF).mnemonic = .LAX ∧ (Instr.laxAbsY 0xFFFF).operand = .mem (.absY 0xFFFF)) ∧
    (let s := start 0 0 0 0xFF 0x20 0x0200 []
    s.writable ((MemOperand.absX 0xFFFF).ea s) = true) ∧
    (start 0 0 0 0xFF 0x20 0x0200 []).params.undocPolicy ≠ .refuseAll := by decide

theorem witness_ImmediateCombinationsAndLas :
    (start 0 0 0 0xFF 0x20 0x0200 []).params.undocPolicy ≠ .refuseAll := by decide

theorem witness_DecrementCompareStoreAndLoadCells_notImmediate : ∀ b, (MemOperand.absY 0xFFFF) ≠ .imm b := by
  intro b h
  cases h

/-- D = 0, and D = 1 with each mode. -/
theorem witness_ArrRotatesAndRefusesDecimal : (start 0xFF 0 0 0xFF 0x21 0x0200 []).p.d = false ∧
    (let s := fun mode => { start 0xFF 0 0 0xFF 0x29 0x0200 [] with settings := given mode false .stableOnly 0 [] }
    (s .binary).params.decimalMode = .binary ∧ (s .nmosBcd).params.decimalMode = .nmosBcd ∧
      (s .refuse).params.decimalMode = .refuse ∧ (s .refuse).params.undocPolicy ≠ .refuseAll ∧
      (s .nmosBcd).p.d = true) := by decide

theorem witness_MagicCellsCombineWithTheConstant : (start 0xFF 0 0 0xFF 0x20 0x0200 []).a = 0xFF ∧
    (0x00 : Byte) = 0x00 ∧ State.reset.params.undocPolicy = .allWithMagic ∧ board.magic = some 0xEE := by decide

/-- For each form a base at the end of a page with index 0 (no crossing) and with index 1 (crossing). -/
theorem witness_UnstableStoresStayInTheirPage :
    (let s := fun i => start 0xFF i i 0xFF 0x20 0x0200 [(0x0010, 0xFF), (0x0011, 0x03)]
    ((s 0).params.undocPolicy = .allWithMagic ∧ (s 0).writable 0x03FF = true) ∧
    (hi ((s 0).readZP16 0x10) = hi ((s 0).readZP16 0x10 + (s 0).y.setWidth 16) ∧
      hi (0x03FF : Addr) = hi ((0x03FF : Addr) + (s 0).y.setWidth 16) ∧
      hi (0x03FF : Addr) = hi ((0x03FF : Addr) + (s 0).x.setWidth 16)) ∧
    (hi ((s 1).readZP16 0x10) ≠ hi ((s 1).readZP16 0x10 + (s 1).y.setWidth 16) ∧
      hi (0x03FF : Addr) ≠ hi ((0x03FF : Addr) + (s 1).y.setWidth 16) ∧
      hi (0x03FF : Addr) ≠ hi ((0x03FF : Addr) + (s 1).x.setWidth 16))) := by decide

theorem witness_AddressingModesGiveTheEffectiveAddress : ∀ b, (MemOperand.indX 0xFF) ≠ .imm b := by
  intro b h
  cases h

theorem witness_ImmediateOperandIsTheFetchedByte :
    (start 0 0 0 0xFF 0x20 0xFFFF [(0x0000, 0x7F), (0xFFFF, 0xA9)]).fetch.operand = .mem (.imm 0x7F) := by
  decide

/-- An address of each kind, at the ends of the regions. -/
theorem witness_MemoryKeepsWhatWasWritten : (0x0000 : Addr) ≠ 0xFFFF ∧ State.reset.settings.platform = [] ∧
    (let s := { State.reset with settings := board }
    s.kindAt 0x01FF = .ram ∧ s.kindAt 0x0200 = .nothing ∧ s.kindAt 0xD000 = .device ∧ s.kindAt 0xE000 = .rom ∧
      s.kindAt 0xFFFF = .rom) := by decide

theorem witness_StackPrimitivesWrapInPageOne : (start 0 0 0 0x00 0x20 0x0200 []).sp = 0x00 ∧
    (start 0 0 0 0xFF 0x20 0x0200 []).sp = 0xFF ∧
    (let s := start 0 0 0 0x00 0x20 0x0200 []
    s.writable (join 0x01 s.sp) = true ∧ s.writable (join 0x01 (s.sp - 1)) = true ∧ s.writable 0x0100 = true ∧
      s.writable 0x01FF = true) := by decide

/-- The three vectors, and an address outside the frame. -/
theorem witness_InterruptEntrySequence : Config.vecNmi = 0xFFFA ∧ Config.vecReset = 0xFFFC ∧ Config.vecIrq = 0xFFFE ∧
    (0x0200 : Addr) ≠ join 0x01 0x01 ∧ (0x0200 : Addr) ≠ join 0x01 (0x01 - 1) ∧
    (0x0200 : Addr) ≠ join 0x01 (0x01 - 2) ∧
    (let s := start 0 0 0 0x01 0x20 0x0200 []
    s.writable (join 0x01 s.sp) = true ∧ s.writable (join 0x01 (s.sp - 1)) = true ∧
      s.writable (join 0x01 (s.sp - 2)) = true) := by decide

/-- One state for each of the five events, in the order of the statement's clauses. -/
theorem witness_StepFollowsTheOrderOfEvents :
    (let s := { State.reset with inputs := [{ irqLine := true, nmiEdge := true, reset := true }] }
    s.resetRequested = true) ∧
    (let s := { State.reset with
      stopped := true, inputs := [{ irqLine := true, nmiEdge := true, reset := false }] }
    s.resetRequested = false ∧ s.takeInput.stopped = true) ∧
    (let s := { State.reset with inputs := [{ irqLine := true, nmiEdge := true, reset := false }] }
    s.resetRequested = false ∧ s.takeInput.stopped = false ∧ s.takeInput.nmiPending = true) ∧
    (let s := { State.reset with
      iForPoll := false, inputs := [{ irqLine := true, nmiEdge := false, reset := false }] }
    s.resetRequested = false ∧ s.takeInput.stopped = false ∧ s.takeInput.nmiPending = false ∧
      s.takeInput.irqLine = true ∧ s.takeInput.iForPoll = false) ∧
    (let s := { State.reset with inputs := [{ irqLine := true, nmiEdge := false, reset := false }] }
    s.resetRequested = false ∧ s.takeInput.stopped = false ∧ s.takeInput.nmiPending = false ∧
      s.takeInput.iForPoll = true ∧ gives (exec s.takeInput.fetch s.takeInput) (fun u => u.p.i) = true) := by decide

theorem witness_EnvironmentInputIsTakenAtTheBoundary : State.reset.inputs = [] ∧
    (let e : StepInput := { irqLine := true, nmiEdge := true, reset := false }
    ({ State.reset with inputs := [e] } : State).inputs = e :: []) := by decide

/-- The reset state, whose empty memory holds BRK at PC: nothing pending, and BRK answers a next state. -/
theorem witness_StepRunsTheDecodedInstruction :
    (let s := State.reset
    let t := s.takeInput
    s.resetRequested = false ∧ t.stopped = false ∧ t.nmiPending = false ∧ t.irqLine = false ∧
      decode [t.read t.pc, t.read (t.pc + 1), t.read (t.pc + 2)] = .ok (.brk, [0x00, 0x00]) ∧
      Instr.brk.wellFormed = true ∧ gives (exec .brk t) (fun u => u.p.i) = true) := by decide

/-- A state at which the instruction at PC refuses. -/
theorem witness_StepRunsTheDecodedInstruction_refusal :
    (let s := start 0 0 1 0xFF 0x20 0x0200 [(0x0200, 0x9F), (0x0201, 0xFF)]
    decode [s.read s.pc, s.read (s.pc + 1), s.read (s.pc + 2)] = .ok (.ahxAbsY 0x00FF, []) ∧
      refusal (exec (.ahxAbsY 0x00FF) s) = some .unstableStoreCrossesPage) := by decide

/-- CLI with the line asserted and I = 1; SEI with I = 0; the step after a CLI that runs NOP; BRK answers a
next state; NOP does not delay I. -/
theorem witness_DelayedInterruptDisable :
    (let s := { start 0 0 0 0xFF 0x24 0x0200 [(0x0200, 0x58)] with irqLine := true }
    s.inputs = [] ∧ s.stopped = false ∧ s.nmiPending = false ∧ s.irqLine = true ∧ s.iForPoll = true ∧ s.p.i = true ∧
      s.fetch = .cli ∧ gives (exec .brk s) (fun t => t.p.i) = true) ∧
    (let s := { start 0 0 0 0xFF 0x20 0x0200 [(0x0200, 0x78)] with irqLine := true, iForPoll := true }
    s.inputs = [] ∧ s.stopped = false ∧ s.nmiPending = false ∧ s.irqLine = true ∧ s.iForPoll = true ∧ s.p.i = false ∧
      s.fetch = .sei ∧ s.writable (join 0x01 (s.sp - 2)) = true) ∧
    (let t := { start 0 0 0 0xFF 0x20 0x0201 [(0x0201, 0xEA)] with irqLine := true, iForPoll := true }
    gives (step t) (fun u => !u.stopped && !u.iForPoll) = true) ∧
    (Instr.cli.mnemonic = .CLI ∧ Instr.sei.mnemonic = .SEI ∧ Instr.plp.mnemonic = .PLP) ∧
    (Instr.nop.mnemonic ≠ .CLI ∧ Instr.nop.mnemonic ≠ .SEI ∧ Instr.nop.mnemonic ≠ .PLP) := by decide

theorem witness_ResetRestoresTheControlState :
    (let s := { State.reset with inputs := [{ irqLine := false, nmiEdge := false, reset := true }] }
    s.resetRequested = true) := by decide

/-- A canonical memory with the lowest and the highest address, and a step that answers a next state. -/
theorem witness_EveryStepKeepsMemoryCanonical :
    (let s := start 0x55 0 0 0xFF 0x20 0x0200
      [(0x0000, 0x01), (0x0200, 0x8D), (0x0201, 0xFF), (0x0202, 0xFF), (0xFFFF, 0xFF)]
    Memory.wf s.mem = true ∧ gives (step s) (fun t => t.read 0xFFFF == 0x55) = true) := by decide

theorem witness_DecodeUndoesEncode : (Instr.jmpInd 0xFFFF).wellFormed = true := by decide

theorem witness_EncodeUndoesDecode : decode [0x6C, 0xFF, 0xFF, 0x00] = .ok (.jmpInd 0xFFFF, [0x00]) := by decide

/-- NOP answers a next state and is in no list of writers; INC leaves A alone in its memory form. -/
theorem witness_OnlyTheNamedInstructionsWriteARegister :
    gives (exec .nop (start 1 2 3 4 0xFF 0x0200 [])) (fun t => t.a == 1) = true ∧
    Instr.nop.mnemonic ∉ [.LDX, .TAX, .TSX, .INX, .DEX, .LAX, .AXS, .LAS] ∧
    gives (exec (.aslAbs 0xFFFF) (start 1 2 3 4 0xFF 0x0200 [])) (fun t => t.a == 1) = true ∧
    (Instr.aslAbs 0xFFFF).mnemonic ∈ [.ASL, .LSR, .ROL, .ROR] ∧ (Instr.aslAbs 0xFFFF).operand ≠ .accumulator := by
  decide

theorem witness_OnlyTheNamedInstructionsWriteAFlag :
    gives (exec (.staAbs 0xFFFF) (start 1 2 3 4 0xFF 0x0200 [])) (fun t => t.p.c) = true ∧
    (Instr.staAbs 0xFFFF).mnemonic ∉ [.CLI, .SEI, .PLP, .RTI, .BRK] := by decide

theorem witness_OnlyTheNamedInstructionsWriteMemory :
    (let s := { State.reset with settings := board }
    s.kindAt 0xE000 ≠ .ram ∧ gives (exec (.staAbs 0xE000) s) (fun t => t.pc == 0x0003) = true) ∧
    gives (exec (.ldaAbs 0xFFFF) (start 1 2 3 4 0x20 0x0200 [])) (fun t => t.a == 0) = true ∧
    ((Instr.staZp 0xFF).operand = .mem (.zp 0xFF) ∧ (Instr.staZp 0xFF).mnemonic ≠ .JSR) ∧
    Instr.pha.mnemonic ∈ [.PHA, .PHP, .JSR, .BRK] ∧ Instr.aslAcc.operand = .accumulator := by decide

/-- For the eight clauses: LDA, a branch taken and one not taken, JMP a, JMP (a), RTS, RTI, BRK, STP. -/
theorem witness_InstructionsAdvancePCByTheirLength :
    (let s := start 1 2 3 0xFD 0x23 0xFFFF []
    gives (exec (.ldaImm 0xFF) s) (fun t => t.pc == 0x0001) = true ∧
    gives (exec (.bcs 0x80) s) (fun t => t.pc == 0xFF81) = true ∧ branchTaken .BCS s.p = true ∧
    gives (exec (.bcc 0x80) s) (fun t => t.pc == 0x0001) = true ∧ branchTaken .BCC s.p = false ∧
    gives (exec (.jmpAbs 0xFFFF) s) (fun t => t.pc == 0xFFFF) = true ∧
    gives (exec (.jmpInd 0x0300) s) (fun t => t.pc == 0x0000) = true ∧
    gives (exec .rts s) (fun t => t.pc == 0x0001) = true ∧ gives (exec .rti s) (fun t => t.pc == 0x0000) = true ∧
    gives (exec .brk s) (fun t => t.pc == 0x0000) = true ∧ gives (exec .stp02 s) (fun t => t.pc == 0xFFFF) = true) := by
  decide

theorem witness_NoInstructionFaults :
    refusal (exec (.shxAbsY 0xFFFF) (start 0 0 1 0xFF 0x20 0x0200 [])) = some .unstableStoreCrossesPage ∧
    (let s := fun mode => { start 0 0 0 0xFF 0x28 0x0200 [] with settings := given mode false .stableOnly 0 [] }
    refusal (exec (.arrImm 0xFF) (s .nmosBcd)) = some .arrDecimal ∧
      refusal (exec (.iscZp 0xFF) (s .refuse)) = some .decimalModeRefused ∧
      refusal (exec (.xaaImm 0xFF) (s .binary)) = some .undocumentedCell) := by decide

theorem witness_InstructionsLeaveHiddenStateAlone :
    gives (exec .nop (start 1 2 3 4 0x20 0x0200 [])) (fun t => !t.stopped) = true ∧ Instr.nop.mnemonic ≠ .STP := by
  decide

theorem witness_DecimalFlagIsReadOnlyByArithmetic : (Instr.cmpImm 0xFF).mnemonic ∉
    [.ADC, .SBC, .RRA, .ISC, .ARR, .PHP, .BRK, .PLP, .RTI, .CLD, .SED] := by decide

theorem witness_CycleCountInfluencesNoStep :
    gives (step (start 1 2 3 4 0x20 0x0200 [(0x0200, 0xEA)])) (fun t => t.cycles == 2) = true := by decide

/-- The three shapes: a fixed count, a "+" count with and without a crossing, a branch to another page. -/
theorem witness_CycleMarksAddOnCrossings :
    cycleCountOf (Instr.opcode .brk) = .fixed 7 ∧ cycleCountOf (Instr.opcode (.ldaAbsX 0x02FF)) = .plus 4 ∧
    cyclesTaken (.ldaAbsX 0x02FF) (start 0 1 0 0xFF 0x20 0x0200 []) = 5 ∧
    cyclesTaken (.ldaAbsX 0x02FE) (start 0 1 0 0xFF 0x20 0x0200 []) = 4 ∧
    (Instr.bcc 0x80).operand = .relative 0x80 ∧ cyclesTaken (.bcc 0x80) (start 0 1 0 0xFF 0x20 0x0200 []) = 4 := by
  decide

theorem witness_UndocumentedPolicyTable :
    (let s := fun policy => { State.reset with settings := given .binary false policy 0 [] }
    (s .refuseAll).params.undocPolicy = .refuseAll ∧ (s .stableOnly).params.undocPolicy = .stableOnly ∧
      (s .allWithMagic).params.undocPolicy = .allWithMagic ∧
      refusal (exec (.laxImm 0xFF) (s .stableOnly)) = some .undocumentedCell) ∧
    UndocClass.stable ≠ .unstable := by decide

theorem witness_EveryStepKeepsTheParameters :
    gives (step { State.reset with settings := board, pc := 0x0010 }) (fun t => t.settings == board) = true := by decide

end Sys2Proof.Tests
end

section
/-! Proofs of the statements of `00_scope.md`: what a step keeps of the open parameters (R7), and what memory keeps of
a write (R64, R66). The instructions other than STP write registers and store bytes, and nothing else: `Updates` is
that relation between two states, and `exec_updates` says it of every cell, once. -/

namespace Sys2Proof.Machine

/-! ### What an instruction can do to the state -/

/-- The states that come from `s` by writing A, X, Y, S, PC, P and storing bytes, in any number and order. -/
inductive Updates (s : State) : State → Prop where
  | refl : Updates s s
  | registers {t : State} (h : Updates s t) (a x y sp : Byte) (pc : Addr) (p : Flags) :
      Updates s { t with a := a, x := x, y := y, sp := sp, pc := pc, p := p }
  | store {t : State} (h : Updates s t) (k : Addr) (v : Byte) : Updates s (t.write k v)

variable {s t : State}

/-- No register write and no store touches the settings. -/
theorem Updates.settings_eq (h : Updates s t) : t.settings = s.settings := by
  induction h with
  | refl => rfl
  | registers _ _ _ _ _ _ _ ih => exact ih
  | store _ _ _ ih => exact ih

/-- No register write and no store counts a step. -/
theorem Updates.steps_eq (h : Updates s t) : t.steps = s.steps := by
  induction h with
  | refl => rfl
  | registers _ _ _ _ _ _ _ ih => exact ih
  | store _ _ _ ih => exact ih

/-- One store, and any registers with it. -/
theorem Updates.storeRegisters (s : State) (k : Addr) (v a x y sp : Byte) (pc : Addr) (p : Flags) :
    Updates s { s.write k v with a := a, x := x, y := y, sp := sp, pc := pc, p := p } :=
  .registers (.store .refl k v) ..

theorem Updates.push (h : Updates s t) (v : Byte) : Updates s (t.push v) :=
  .registers (.store h ..) ..

theorem Updates.push16 (h : Updates s t) (w : Addr) : Updates s (t.push16 w) :=
  (h.push _).push _

/-- An entry pushes three bytes, then writes I and PC (R338). -/
theorem Updates.enter (h : Updates s t) (ret : Addr) (b : Bool) (vec : Addr) : Updates s (t.enter ret b vec) :=
  .registers ((h.push16 ret).push _) ..

/-- The operations on an operand of memory or on an immediate byte write registers and store at most one byte. -/
theorem memMeaning_updates {m : Mnemonic} {o : MemOperand} (h : memMeaning m o s = .next t) : Updates s t := by
  cases m
  case ADC =>
    obtain ⟨r, -, rfl⟩ := opAdc_next.mp h
    exact .registers .refl ..
  case SBC =>
    obtain ⟨r, -, rfl⟩ := opSbc_next.mp h
    exact .registers .refl ..
  case ARR =>
    obtain ⟨-, rfl⟩ := opArr_next.mp h
    exact .registers .refl ..
  case RRA =>
    obtain ⟨r, -, rfl⟩ := opRra_next.mp h
    exact .storeRegisters ..
  case ISC =>
    obtain ⟨r, -, rfl⟩ := opIsc_next.mp h
    exact .storeRegisters ..
  case AHX | TAS | SHY | SHX =>
    obtain ⟨-, rfl⟩ := opUnstableStore_next.mp h
    exact .storeRegisters ..
  case STA | STX | STY | SAX | ASL | LSR | ROL | ROR | INC | DEC | SLO | RLA | SRE | DCP =>
    cases h
    exact .storeRegisters ..
  case LAX => cases o <;> cases h <;> exact .registers .refl ..
  all_goals
    cases h
    exact .registers .refl ..

/-- A meaning that completes behind a gate completes without it (R270). -/
theorem behindGate_next {cl : Option UndocClass} {r : Result} (h : behindGate cl s r = .next t) : r = .next t := by
  cases cl with
  | none => exact h
  | some cl => exact (undocumented_eq_next.mp h).2

/-- STP sets `stopped` behind the policy gate (R271). -/
theorem exec_stp {i : Instr} (s : State) (hi : i.mnemonic = .STP) :
    exec i s = undocumented s .halt (.next s.stop) := by
  cases i <;> cases hi <;> rfl

/-- The instructions without an operand, STP apart: BRK pushes three bytes, PHA and PHP one, the others none. -/
theorem implicit_updates {i : Instr} (ho : i.operand = .implicit) (hi : i.mnemonic ≠ .STP)
    (h : exec i s = .next t) : Updates s t := by
  -- `ho` and `hi` leave the 31 cells of implicit mode that are not STP.
  cases i <;> try contradiction
  case brk =>
    cases h
    exact Updates.refl.enter ..
  case pha | php =>
    cases h
    exact .storeRegisters ..
  case nop1A | nop3A | nop5A | nop7A | nopDA | nopFA =>
    cases (undocumented_eq_next.mp h).2
    exact .registers .refl ..
  all_goals
    cases h
    exact .registers .refl ..

/-- Every instruction but STP writes registers and stores bytes, and does nothing else. -/
theorem exec_updates {i : Instr} (hi : i.mnemonic ≠ .STP) (h : exec i s = .next t) : Updates s t := by
  by_cases hr : i.mnemonic = .JSR
  · cases i <;> cases hr
    cases h
    exact .registers (Updates.refl.push16 _) ..
  by_cases hj : i.mnemonic = .JMP
  · cases i <;> cases hj <;> cases h <;> exact .registers .refl ..
  cases ho : i.operand with
  | mem o =>
    rw [exec_mem s ho hj hr] at h
    exact memMeaning_updates (behindGate_next h)
  | accumulator | relative | indirect => cases i <;> cases ho <;> cases h <;> exact .registers .refl ..
  | implicit => exact implicit_updates ho hi h

/-! ### The open parameters (R7) -/

/-- No instruction changes the settings or counts a step. -/
theorem exec_settings_steps {i : Instr} (h : exec i s = .next t) : t.settings = s.settings ∧ t.steps = s.steps := by
  by_cases hi : i.mnemonic = .STP
  · rw [exec_stp s hi] at h
    cases (undocumented_eq_next.mp h).2
    exact ⟨rfl, rfl⟩
  · have hu := exec_updates hi h
    exact ⟨hu.settings_eq, hu.steps_eq⟩

/-- A step keeps the settings and counts itself, whichever event it takes (R333). -/
theorem step_settings_steps (h : step s = .next t) : t.settings = s.settings ∧ t.steps = s.steps + 1 := by
  obtain ⟨-, rfl⟩ | ⟨-, rfl⟩ | ⟨-, rfl⟩ | ⟨-, u, hu, rfl⟩ := step_cases h
  · simp [State.resetStep]
  · simp [State.takeNmi]
  · simp [State.takeIrq]
  · simpa using exec_settings_steps hu

/-- Settles O60: the parameters and the kind of an address are functions of the settings, which every step keeps. -/
theorem everyStepKeepsTheParameters : Obligations.EveryStepKeepsTheParameters := by
  intro s t h
  obtain ⟨hset, hsteps⟩ := step_settings_steps h
  refine ⟨⟨hset, ?_, fun a => ?_⟩, hsteps⟩
  · rw [State.params, hset, State.params]
  · rw [State.kindAt, hset, State.kindAt]

/-! ### Memory (R64, R66) -/

/-- Settles O33, from the laws of one read after one write. -/
theorem memoryKeepsWhatWasWritten : Obligations.MemoryKeepsWhatWasWritten := by
  intro s a v w
  refine ⟨fun hram => ?_, fun hheld => ?_, ⟨fun k hk => ?_, rfl⟩, fun hne => ?_, fun hopen => ?_,
    ⟨State.writable_iff, State.readable_iff⟩, fun hp => ?_, fun r rs hp => ?_⟩
  · have hw : s.writable a = true := State.writable_iff.mpr hram
    exact ⟨State.read_write_same v hw, State.read_write_same w ((State.write_writable s a v a).trans hw)⟩
  · exact State.read_of_readable (State.readable_iff.mpr hheld)
  · exact State.read_write_other s v hk
  · exact State.write_not_writable v (Bool.eq_false_iff.mpr (mt State.writable_iff.mp hne))
  · have hr : s.readable a = false := by
      rw [Bool.eq_false_iff, Ne, State.readable_iff]
      rcases hopen with h | h <;> simp [h]
    exact State.read_of_not_readable hr
  · rw [State.kindAt, hp, platformKind]
  · rw [State.kindAt, hp, platformKind]

end Sys2Proof.Machine
end

section
/-! Proofs of the statements of `10_state.md`: which registers and flags an instruction writes (R21 to R24, R30 to R35),
where it leaves PC (R27), the status byte (R37, R38), the hidden state (R39), the state after reset (R41). The table
`footprint` says once per mnemonic what it writes, row by row; the statements list the writers column by column. -/

namespace Sys2Proof.Machine

/-! ### What an instruction writes -/

/-- The registers and stored flags of R20. -/
inductive Part where
  | a | x | y | sp | pc | c | z | i | d | v | n

/-- The part has the same value in both states. -/
def Part.Kept (s t : State) : Part → Prop
  | .a => t.a = s.a
  | .x => t.x = s.x
  | .y => t.y = s.y
  | .sp => t.sp = s.sp
  | .pc => t.pc = s.pc
  | .c => t.p.c = s.p.c
  | .z => t.p.z = s.p.z
  | .i => t.p.i = s.p.i
  | .d => t.p.d = s.p.d
  | .v => t.p.v = s.p.v
  | .n => t.p.n = s.p.n

/-- Every part outside the list is as before. -/
def Writes (ps : List Part) (s t : State) : Prop := ∀ q, q ∉ ps → q.Kept s t

/-- What a mnemonic writes besides PC and memory. The operand matters for the shifts alone, which write A in
accumulator mode (R84). -/
def footprint (m : Mnemonic) (o : Operand) : List Part :=
  match m with
  | .LDA | .AND | .ORA | .EOR | .XAA | .TXA | .TYA => [.a, .z, .n]
  | .LDX | .TAX | .TSX | .INX | .DEX => [.x, .z, .n]
  | .LDY | .TAY | .INY | .DEY => [.y, .z, .n]
  | .INC | .DEC => [.z, .n]
  | .BIT => [.z, .v, .n]
  | .CMP | .CPX | .CPY | .DCP => [.c, .z, .n]
  | .ADC | .SBC | .RRA | .ISC | .ARR => [.a, .c, .z, .v, .n]
  | .ASL | .LSR | .ROL | .ROR => (if o = .accumulator then [.a] else []) ++ [.c, .z, .n]
  | .SLO | .RLA | .SRE | .ANC | .ALR => [.a, .c, .z, .n]
  | .LAX => [.a, .x, .z, .n]
  | .LAS => [.a, .x, .sp, .z, .n]
  | .AXS => [.x, .c, .z, .n]
  | .TXS | .TAS | .PHA | .PHP | .JSR | .RTS => [.sp]
  | .PLA => [.a, .sp, .z, .n]
  | .PLP | .RTI => [.sp, .c, .z, .i, .d, .v, .n]
  | .BRK => [.sp, .i]
  | .CLC | .SEC => [.c]
  | .CLD | .SED => [.d]
  | .CLI | .SEI => [.i]
  | .CLV => [.v]
  | _ => []

/-- The mnemonics of which R27 does not say that PC goes past the instruction. -/
def controlMnemonics : List Mnemonic :=
  [.BCC, .BCS, .BEQ, .BMI, .BNE, .BPL, .BVC, .BVS, .JMP, .JSR, .RTS, .RTI, .BRK, .STP]

section
variable {ps : List Part} {s t : State} {v : Byte}

theorem Writes.refl : Writes ps s s := fun q _ => by cases q <;> rfl

theorem Writes.setA (h : Writes ps s t) (ha : .a ∈ ps := by simp [footprint]) : Writes ps s (t.setA v) := by
  intro q hq
  cases q
  case a => exact absurd ha hq
  all_goals exact h _ hq

theorem Writes.setX (h : Writes ps s t) (hx : .x ∈ ps := by simp [footprint]) : Writes ps s (t.setX v) := by
  intro q hq
  cases q
  case x => exact absurd hx hq
  all_goals exact h _ hq

theorem Writes.setY (h : Writes ps s t) (hy : .y ∈ ps := by simp [footprint]) : Writes ps s (t.setY v) := by
  intro q hq
  cases q
  case y => exact absurd hy hq
  all_goals exact h _ hq

theorem Writes.setSp (h : Writes ps s t) (hsp : .sp ∈ ps := by simp [footprint]) : Writes ps s (t.setSp v) := by
  intro q hq
  cases q
  case sp => exact absurd hsp hq
  all_goals exact h _ hq

/-- New flags, of which those outside the list are the old ones. -/
theorem Writes.setP (h : Writes ps s t) {p : Flags} (hc : .c ∈ ps ∨ p.c = t.p.c := by simp [footprint])
    (hz : .z ∈ ps ∨ p.z = t.p.z := by simp [footprint]) (hi : .i ∈ ps ∨ p.i = t.p.i := by simp [footprint])
    (hd : .d ∈ ps ∨ p.d = t.p.d := by simp [footprint]) (hv : .v ∈ ps ∨ p.v = t.p.v := by simp [footprint])
    (hn : .n ∈ ps ∨ p.n = t.p.n := by simp [footprint]) : Writes ps s (t.setP p) := by
  intro q hq
  cases q
  case c => exact (hc.resolve_left hq).trans (h .c hq)
  case z => exact (hz.resolve_left hq).trans (h .z hq)
  case i => exact (hi.resolve_left hq).trans (h .i hq)
  case d => exact (hd.resolve_left hq).trans (h .d hq)
  case v => exact (hv.resolve_left hq).trans (h .v hq)
  case n => exact (hn.resolve_left hq).trans (h .n hq)
  all_goals exact h _ hq

theorem Writes.write (h : Writes ps s t) {k : Addr} : Writes ps s (t.write k v) := fun q hq => by
  cases q <;> exact h _ hq

theorem Writes.push (h : Writes ps s t) (hsp : .sp ∈ ps := by simp [footprint]) : Writes ps s (t.push v) :=
  h.write.setSp hsp

theorem Writes.stop (h : Writes ps s t) : Writes ps s t.stop := fun q hq => by cases q <;> exact h _ hq

theorem Writes.setPc (h : Writes ps s t) {w : Addr} : Writes (.pc :: ps) s (t.setPc w) := by
  intro q hq
  rw [List.mem_cons, not_or] at hq
  cases q
  case pc => exact absurd rfl hq.1
  all_goals exact h _ hq.2

/-- Only parts of the list are written, then PC goes past the instruction (R27). -/
def WritesAndAdvances (ps : List Part) (len : Nat) (s t : State) : Prop := ∃ u, Writes ps s u ∧ t = u.advance len

theorem Writes.advance (h : Writes ps s t) {len : Nat} : WritesAndAdvances ps len s (t.advance len) := ⟨t, h, rfl⟩

theorem WritesAndAdvances.writes {len : Nat} (h : WritesAndAdvances ps len s t) : Writes (.pc :: ps) s t := by
  obtain ⟨u, hu, rfl⟩ := h
  exact hu.setPc

theorem WritesAndAdvances.pc_eq {len : Nat} (h : WritesAndAdvances ps len s t) (hpc : .pc ∉ ps) :
    t.pc = s.pc + BitVec.ofNat 16 len := by
  obtain ⟨u, hu, rfl⟩ := h
  have : u.pc = s.pc := hu .pc hpc
  rw [State.advance_pc, this]

end

variable {s t : State}

/-- PC is in no row: the instructions that write more of it than their length stand in `controlMnemonics`. -/
theorem pc_not_mem_footprint (m : Mnemonic) (o : Operand) : .pc ∉ footprint m o := by
  cases m <;> simp [footprint]

theorem mode_ne_implicit (o : MemOperand) : o.mode ≠ .implicit := by
  cases o <;> simp [MemOperand.mode]

theorem length_imm {o : MemOperand} (h : o.mode ∈ [Mode.imm]) : o.length = 2 := by
  rw [MemOperand.length, List.mem_singleton.mp h, Mode.operandBytes]

/-- The operations on an operand of memory or on an immediate byte, in the modes that R99 gives the mnemonic. -/
theorem memMeaning_writes {m : Mnemonic} {o : MemOperand} (hm : o.mode ∈ modesOf m) (hc : m ∉ controlMnemonics)
    (h : memMeaning m o s = .next t) : WritesAndAdvances (footprint m (.mem o)) o.length s t := by
  cases m
  case LDA | AND | ORA | EOR =>
    cases h
    exact Writes.refl.setA.setP.advance
  case LDX =>
    cases h
    exact Writes.refl.setX.setP.advance
  case LDY =>
    cases h
    exact Writes.refl.setY.setP.advance
  case STA | STX | STY | SAX =>
    cases h
    exact Writes.refl.write.advance
  case AHX | SHY | SHX =>
    obtain ⟨-, rfl⟩ := opUnstableStore_next.mp h
    exact Writes.refl.write.advance
  case TAS =>
    obtain ⟨-, rfl⟩ := opUnstableStore_next.mp h
    exact Writes.refl.setSp.write.advance
  case BIT | CMP | CPX | CPY =>
    cases h
    exact Writes.refl.setP.advance
  case ADC =>
    obtain ⟨r, -, rfl⟩ := opAdc_next.mp h
    exact Writes.refl.setA.setP.advance
  case SBC =>
    obtain ⟨r, -, rfl⟩ := opSbc_next.mp h
    exact Writes.refl.setA.setP.advance
  case RRA =>
    obtain ⟨r, -, rfl⟩ := opRra_next.mp h
    exact Writes.refl.write.setP.setA.setP.advance
  case ISC =>
    obtain ⟨r, -, rfl⟩ := opIsc_next.mp h
    exact Writes.refl.write.setA.setP.advance
  case ASL | LSR | ROL | ROR =>
    cases h
    exact Writes.refl.write.setP.setP.advance
  case INC | DEC | DCP =>
    cases h
    exact Writes.refl.write.setP.advance
  case SLO | RLA | SRE =>
    cases h
    exact Writes.refl.write.setP.setA.setP.advance
  case LAX => cases o <;> cases h <;> exact Writes.refl.setA.setX.setP.advance
  case LAS =>
    cases h
    exact Writes.refl.setSp.setA.setX.setP.advance
  case NOP =>
    cases h
    exact Writes.refl.advance
  case ANC | ALR =>
    rw [length_imm hm]
    cases h
    exact Writes.refl.setP.setA.setP.advance
  case XAA =>
    rw [length_imm hm]
    cases h
    exact Writes.refl.setA.setP.advance
  case AXS =>
    rw [length_imm hm]
    cases h
    exact Writes.refl.setX.setP.advance
  case ARR =>
    rw [length_imm hm]
    obtain ⟨-, rfl⟩ := opArr_next.mp h
    exact Writes.refl.setA.setP.advance
  case BCC | BCS | BEQ | BMI | BNE | BPL | BVC | BVS | JMP | JSR | RTS | RTI | BRK | STP =>
    simp [controlMnemonics] at hc
  all_goals exact absurd (List.mem_singleton.mp hm) (mode_ne_implicit o)

/-- The instructions without an operand that go on to the next one. -/
theorem implicit_writes {i : Instr} (ho : i.operand = .implicit) (hc : i.mnemonic ∉ controlMnemonics)
    (h : exec i s = .next t) : WritesAndAdvances (footprint i.mnemonic .implicit) 1 s t := by
  -- `ho` and `hc` leave the 28 cells of implicit mode that go on.
  cases i <;> try contradiction
  all_goals simp only [Instr.mnemonic]
  case nop =>
    cases h
    exact Writes.refl.advance
  case nop1A | nop3A | nop5A | nop7A | nopDA | nopFA =>
    cases (undocumented_eq_next.mp h).2
    exact Writes.refl.advance
  case clc | cld | cli | clv | sec | sed | sei =>
    cases h
    exact Writes.refl.setP.advance
  case tax | tsx | inx | dex =>
    cases h
    exact Writes.refl.setX.setP.advance
  case tay | iny | dey =>
    cases h
    exact Writes.refl.setY.setP.advance
  case txa | tya =>
    cases h
    exact Writes.refl.setA.setP.advance
  case txs =>
    cases h
    exact Writes.refl.setSp.advance
  case pha | php =>
    cases h
    exact Writes.refl.push.advance
  case pla =>
    cases h
    exact Writes.refl.setSp.setA.setP.advance
  case plp =>
    cases h
    exact Writes.refl.setSp.setP.advance

/-- The shifts of A (R84). -/
theorem accumulator_writes {i : Instr} (ho : i.operand = .accumulator) (h : exec i s = .next t) :
    WritesAndAdvances (footprint i.mnemonic .accumulator) 1 s t := by
  cases i <;> cases ho <;> cases h <;> simp only [Instr.mnemonic] <;> exact Writes.refl.setA.setP.setP.advance

/-- STP sets `stopped` and nothing else (R271). -/
theorem stp_next {i : Instr} (hi : i.mnemonic = .STP) (h : exec i s = .next t) : t = s.stop := by
  rw [exec_stp s hi] at h
  exact next_eq.mp (undocumented_eq_next.mp h).2

/-- Every cell of the matrix is one of R99. -/
theorem mode_mem_modesOf (i : Instr) : i.operand.mode ∈ modesOf i.mnemonic := by
  cases i <;> simp [Instr.operand, Operand.mode, MemOperand.mode, Instr.mnemonic, modesOf]

/-- Every instruction but those of `controlMnemonics` writes its row and moves PC past itself (R27). -/
theorem exec_advances {i : Instr} (hc : i.mnemonic ∉ controlMnemonics) (h : exec i s = .next t) :
    WritesAndAdvances (footprint i.mnemonic i.operand) i.length s t := by
  cases ho : i.operand with
  | mem o =>
    have hm : o.mode ∈ modesOf i.mnemonic := by simpa [ho, Operand.mode] using mode_mem_modesOf i
    have hj : i.mnemonic ≠ .JMP := fun e => hc (by simp [e, controlMnemonics])
    have hr : i.mnemonic ≠ .JSR := fun e => hc (by simp [e, controlMnemonics])
    rw [exec_mem s ho hj hr] at h
    rw [length_mem ho]
    exact memMeaning_writes hm hc (behindGate_next h)
  | accumulator =>
    rw [Instr.length, ho]
    exact accumulator_writes ho h
  | implicit =>
    rw [Instr.length, ho]
    exact implicit_writes ho hc h
  | relative | indirect => cases i <;> cases ho <;> simp [controlMnemonics, Instr.mnemonic] at hc

/-- A branch is the operation of its mnemonic on the displacement (R220). -/
theorem exec_relative {i : Instr} {b : Byte} (s : State) (ho : i.operand = .relative b) :
    exec i s = opBranch i.mnemonic b s := by
  cases i <;> cases ho <;> rfl

/-- The instructions of `controlMnemonics` write their row and PC. -/
theorem control_writes {i : Instr} (hc : i.mnemonic ∈ controlMnemonics) (h : exec i s = .next t) :
    Writes (.pc :: footprint i.mnemonic i.operand) s t := by
  cases i <;> simp [controlMnemonics, Instr.mnemonic] at hc
  all_goals simp only [Instr.mnemonic, Instr.operand]
  case bcc | bcs | beq | bmi | bne | bpl | bvc | bvs | jmpAbs | jmpInd =>
    cases h
    exact Writes.refl.setPc
  case jsrAbs =>
    cases h
    exact Writes.refl.push.push.setPc
  case rts =>
    cases h
    exact Writes.refl.setSp.setSp.setPc
  case rti =>
    cases h
    exact Writes.refl.setSp.setP.setSp.setSp.setPc
  case brk =>
    cases h
    exact Writes.refl.push.push.push.setP.setPc
  -- The twelve cells of STP.
  all_goals
    rw [stp_next rfl h]
    exact Writes.refl.stop

/-- An instruction writes no register and no flag outside its row, PC apart. -/
theorem exec_writes {i : Instr} (h : exec i s = .next t) :
    Writes (.pc :: footprint i.mnemonic i.operand) s t := by
  by_cases hc : i.mnemonic ∈ controlMnemonics
  · exact control_writes hc h
  · exact (exec_advances hc h).writes

/-! ### The writers of each register and flag -/

/-- A part is kept when the mnemonic is not among the part's writers, in any list that holds them all. -/
theorem kept_of_not_writer {i : Instr} (h : exec i s = .next t) {q : Part} {ms : List Mnemonic}
    (hms : ∀ m, q ∈ Part.pc :: footprint m i.operand → m ∈ ms) (hi : i.mnemonic ∉ ms) : q.Kept s t :=
  exec_writes h q (mt (hms i.mnemonic) hi)

/-- Settles O48, from the rows of `footprint`: a register stands in the rows of its writers alone. -/
theorem onlyTheNamedInstructionsWriteARegister : Obligations.OnlyTheNamedInstructionsWriteARegister := by
  intro i s t h
  refine ⟨kept_of_not_writer h (q := .a) ?_, kept_of_not_writer h (q := .x) ?_, kept_of_not_writer h (q := .y) ?_,
    kept_of_not_writer h (q := .sp) ?_, fun hm ho => ?_⟩
  case refine_5 =>
    refine exec_writes h .a ?_
    simp only [List.mem_cons, List.not_mem_nil, or_false] at hm
    rcases hm with e | e | e | e <;> simp [e, footprint, ho]
  all_goals exact fun m => by cases m <;> simp [footprint]

/-- Settles O49, from the rows of `footprint`: a flag stands in the rows of its writers alone. -/
theorem onlyTheNamedInstructionsWriteAFlag : Obligations.OnlyTheNamedInstructionsWriteAFlag := by
  intro i s t h
  refine ⟨kept_of_not_writer h (q := .c) ?_, kept_of_not_writer h (q := .z) ?_, kept_of_not_writer h (q := .i) ?_,
    kept_of_not_writer h (q := .d) ?_, kept_of_not_writer h (q := .v) ?_, kept_of_not_writer h (q := .n) ?_⟩
  all_goals exact fun m => by cases m <;> simp [footprint]

/-! ### PC (R27) -/

theorem branch_pc {i : Instr} {b : Byte} (ho : i.operand = .relative b) (h : exec i s = .next t) :
    t.pc = if branchTaken i.mnemonic s.p then s.pc + 2 + b.signExtend 16 else s.pc + 2 := by
  rw [exec_relative s ho] at h
  rw [opBranch_next.mp h]
  rfl

theorem rts_pc (h : exec .rts s = .next t) :
    t.pc = join (s.read (join 0x01 (s.sp + 2))) (s.read (join 0x01 (s.sp + 1))) + 1 := by
  cases h
  show s.top16 + 1 = _
  rw [State.top16_eq, BitVec.add_assoc]
  rfl

theorem rti_pc (h : exec .rti s = .next t) :
    t.pc = join (s.read (join 0x01 (s.sp + 3))) (s.read (join 0x01 (s.sp + 2))) := by
  cases h
  simp only [State.returnFromInterrupt_eq, BitVec.add_assoc]
  rfl

theorem brk_pc (h : exec .brk s = .next t) : t.pc = join (s.read 0xFFFF) (s.read 0xFFFE) := by
  cases h
  exact State.enter_pc_irq ..

theorem stp_pc {i : Instr} (hi : i.mnemonic = .STP) (h : exec i s = .next t) : t.pc = s.pc := by
  rw [stp_next hi h]
  rfl

/-- Settles O51: `exec_advances` gives the length, and each exception has its own target. -/
theorem instructionsAdvancePCByTheirLength : Obligations.InstructionsAdvancePCByTheirLength := by
  intro i s t h
  refine ⟨fun hi => (exec_advances hi h).pc_eq (pc_not_mem_footprint _ _),
    fun b ho => ⟨fun hb => ?_, fun hb => ?_⟩, fun a hi => ?_, fun a hi => ?_, fun hi => ?_, fun hi => ?_, fun hi => ?_,
    fun hi => stp_pc hi h⟩
  · rw [branch_pc ho h, if_pos hb]
  · rw [branch_pc ho h, hb, if_neg Bool.false_ne_true]
  · rcases hi with rfl | rfl <;> cases h <;> rfl
  · cases hi
    cases h
    rfl
  · exact rts_pc (hi ▸ h)
  · exact rti_pc (hi ▸ h)
  · exact brk_pc (hi ▸ h)

/-! ### The hidden state (R39) -/

/-- Register writes and stores leave everything else of the state alone. -/
theorem Updates.frame (h : Updates s t) : ∃ a x y sp pc p mem,
    t = { s with a := a, x := x, y := y, sp := sp, pc := pc, p := p, mem := mem } := by
  induction h with
  | refl => exact ⟨_, _, _, _, _, _, _, rfl⟩
  | registers _ _ _ _ _ _ _ ih =>
    obtain ⟨_, _, _, _, _, _, _, rfl⟩ := ih
    exact ⟨_, _, _, _, _, _, _, rfl⟩
  | store _ _ _ ih =>
    obtain ⟨_, _, _, _, _, _, _, rfl⟩ := ih
    exact ⟨_, _, _, _, _, _, _, rfl⟩

/-- Settles O53, from the frame of the register writes and stores that the instructions other than STP consist of. -/
theorem instructionsLeaveHiddenStateAlone : Obligations.InstructionsLeaveHiddenStateAlone := by
  intro i s t h
  by_cases hi : i.mnemonic = .STP
  · cases stp_next hi h
    exact ⟨rfl, rfl, rfl, rfl, rfl, rfl, rfl, rfl, absurd hi⟩
  · obtain ⟨_, _, _, _, _, _, _, rfl⟩ := (exec_updates hi h).frame
    exact ⟨rfl, rfl, rfl, rfl, rfl, rfl, rfl, rfl, fun _ => rfl⟩

/-! ### The status byte (R37, R38) -/

theorem Flags.toByte_toNat (p : Flags) (b : Bool) : (p.toByte b).toNat = p.n.toNat * 128 + p.v.toNat * 64 + 32
    + b.toNat * 16 + p.d.toNat * 8 + p.i.toNat * 4 + p.z.toNat * 2 + p.c.toNat := by
  obtain ⟨c, z, i, d, v, n⟩ := p
  have hc := c.toNat_le
  have hz := z.toNat_le
  have hi := i.toNat_le
  have hd := d.toNat_le
  have hv := v.toNat_le
  have hn := n.toNat_le
  have hb := b.toNat_le
  simp only [Flags.toByte, BitVec.toNat_ofNat]
  omega

/-- Bit 4 of a pushed status byte is the B of the push, and bit 5 is set (R37). -/
theorem Flags.toByte_bits45 (p : Flags) (b : Bool) :
    (p.toByte b).getLsbD 4 = b ∧ (p.toByte b).getLsbD 5 = true := by
  obtain ⟨c, z, i, d, v, n⟩ := p
  cases c <;> cases z <;> cases i <;> cases d <;> cases v <;> cases n <;> cases b <;> exact ⟨rfl, rfl⟩

/-- Pushing a pulled byte gives it back but for bits 4 and 5: the other six bits are those of the flags, which SetP
reads back from the pushed byte. -/
theorem Flags.toByte_ofByte (v : Byte) (b : Bool) :
    (Flags.ofByte v).toByte b = (v &&& 0xCF) ||| 0x20 ||| (if b then 0x10 else 0x00) := by
  have hflags := Flags.ofByte_toByte (Flags.ofByte v) b
  obtain ⟨h4, h5⟩ := Flags.toByte_bits45 (Flags.ofByte v) b
  generalize (Flags.ofByte v).toByte b = w at *
  simp [Flags.ofByte] at hflags h4 h5
  apply BitVec.eq_of_getLsbD_eq
  intro k hk
  interval_cases k <;> cases b <;> simp [h4, h5, hflags]

/-- Settles O35. -/
theorem statusByteLayout : Obligations.StatusByteLayout :=
  ⟨fun p b => ⟨p.toByte_toNat b, p.ofByte_toByte b⟩, fun v b => ⟨rfl, Flags.toByte_ofByte v b⟩⟩

/-! ### The state after reset (R41) -/

/-- Settles O42: nothing is listed in memory after reset, so the vector at $FFFC reads as the PC that reset leaves. -/
theorem resetStateHasTheStatedValues : Obligations.ResetStateHasTheStatedValues :=
  ⟨rfl, rfl, rfl, rfl, rfl⟩

/-- Settles O44. -/
theorem resetMemoryIsCanonical : Obligations.ResetMemoryIsCanonical := rfl

/-! ### Who reads D (R33, R171) -/

theorem ea_setD (o : MemOperand) (s : State) (b : Bool) : o.ea (s.setD b) = o.ea s := by cases o <;> rfl

theorem base_setD (o : MemOperand) (s : State) (b : Bool) : o.base (s.setD b) = o.base s := by cases o <;> rfl

/-- `f` does not read D: with D replaced it answers as before, with D replaced in the next state. -/
def PassesD (f : State → Result) : Prop :=
  ∀ (s : State) (b : Bool), f (s.setD b) = andThen (f s) fun t => .next (t.setD b)

/-- The policy gate reads the parameters only (R270). -/
theorem PassesD.gate {f : State → Result} (h : PassesD f) (cl : UndocClass) :
    PassesD fun s => undocumented s cl (f s) := by
  intro s b
  show undocumented (s.setD b) cl _ = andThen (undocumented s cl _) _
  by_cases hp : undocAllowed s.params.undocPolicy cl = true
  · rw [undocumented_open hp, undocumented_open (s := s.setD b) hp, h s b]
  · rw [Bool.not_eq_true] at hp
    rw [undocumented_closed hp, undocumented_closed (s := s.setD b) hp]
    rfl

theorem PassesD.behindGate {f : State → Result} (h : PassesD f) (cl : Option UndocClass) :
    PassesD fun s => behindGate cl s (f s) := by
  cases cl with
  | none => exact h
  | some cl => exact h.gate cl

/-- An unstable store of a byte that does not depend on D, into a state prepared without reading D. -/
theorem opUnstableStore_passesD {o : MemOperand} {v : State → Byte} {g : State → State} (hv : ∀ s b, v (s.setD b) = v s)
    (hg : ∀ s b, g (s.setD b) = (g s).setD b) : PassesD fun s => opUnstableStore (v s) o s (g s) := by
  intro s b
  have hx : o.crossed (s.setD b) = o.crossed s := by rw [MemOperand.crossed, base_setD, ea_setD, MemOperand.crossed]
  unfold opUnstableStore
  simp only [unstableByte, hx, hv, hg, ea_setD, base_setD]
  cases o.crossed s <;> rfl

/-- The mnemonics that read or write D. -/
def decimalMnemonics : List Mnemonic := [.ADC, .SBC, .RRA, .ISC, .ARR, .PHP, .BRK, .PLP, .RTI, .CLD, .SED]

/-- The operations on an operand of memory or on an immediate byte. -/
theorem memMeaning_passesD {m : Mnemonic} {o : MemOperand} (hm : m ∉ decimalMnemonics) : PassesD (memMeaning m o) := by
  intro s b
  cases m
  case AHX =>
    exact opUnstableStore_passesD (v := fun u => u.a &&& u.x) (g := id) (fun _ _ => rfl) (fun _ _ => rfl) s b
  case TAS =>
    exact opUnstableStore_passesD (v := fun u => u.a &&& u.x) (g := fun u => u.setSp (u.a &&& u.x)) (fun _ _ => rfl)
      (fun _ _ => rfl) s b
  case SHY => exact opUnstableStore_passesD (v := State.y) (g := id) (fun _ _ => rfl) (fun _ _ => rfl) s b
  case SHX => exact opUnstableStore_passesD (v := State.x) (g := id) (fun _ _ => rfl) (fun _ _ => rfl) s b
  case ADC | SBC | RRA | ISC | ARR => simp [decimalMnemonics] at hm
  -- No address and no operand byte depends on D, in whichever mode.
  all_goals cases o <;> rfl

/-- The instructions without an operand: STP and the extra NOPs stand behind the policy gate. -/
theorem implicit_passesD {i : Instr} (ho : i.operand = .implicit) (hi : i.mnemonic ∉ decimalMnemonics) :
    PassesD (exec i) := by
  have hstop : PassesD fun s => .next s.stop := fun _ _ => rfl
  have hnop : PassesD fun s => .next (s.advance 1) := fun _ _ => rfl
  cases i <;> try contradiction
  case stp02 | stp12 | stp22 | stp32 | stp42 | stp52 | stp62 | stp72 | stp92 | stpB2 | stpD2 | stpF2 =>
    exact hstop.gate .halt
  case nop1A | nop3A | nop5A | nop7A | nopDA | nopFA => exact hnop.gate .same
  all_goals exact fun _ _ => rfl

/-- Settles O54: the operands, the policy gate and the other operations do not read D. -/
theorem decimalFlagIsReadOnlyByArithmetic : Obligations.DecimalFlagIsReadOnlyByArithmetic := by
  intro i s b hi
  by_cases hr : i.mnemonic = .JSR
  · cases i <;> cases hr
    rfl
  by_cases hj : i.mnemonic = .JMP
  · cases i <;> cases hj <;> rfl
  cases ho : i.operand with
  | mem o =>
    rw [exec_mem _ ho hj hr, exec_mem _ ho hj hr]
    exact (memMeaning_passesD hi).behindGate _ s b
  | accumulator | relative | indirect => cases i <;> cases ho <;> rfl
  | implicit => exact implicit_passesD ho hi s b

end Sys2Proof.Machine
end

section
/-! Proofs of the statements of `20_memory.md`: the canonical form of memory (R50), the stores of an instruction (R51,
R56, R64), the stack primitives (R57 to R61). The table `storedAt` says once at which addresses an instruction stores
a byte, and `exec_storesAt` ties it to `exec`. -/

namespace Sys2Proof.Machine

variable {s t : State}

/-! ### The canonical form (R50) -/

/-- Register writes and stores keep the canonical form. -/
theorem Updates.inv (h : Updates s t) (hs : s.Inv) : t.Inv := by
  induction h with
  | refl => exact hs
  | registers _ _ _ _ _ _ _ ih => exact ih
  | store _ k v ih => exact State.wf_write k v ih

theorem exec_inv {i : Instr} (h : exec i s = .next t) (hs : s.Inv) : t.Inv := by
  by_cases hi : i.mnemonic = .STP
  · cases stp_next hi h
    exact hs
  · exact (exec_updates hi h).inv hs

/-- The invariant is about memory alone. -/
theorem inv_of_mem_eq (e : t.mem = s.mem) (hs : s.Inv) : t.Inv := by
  rwa [State.Inv, e]

theorem enter_inv (ret : Addr) (b : Bool) (vec : Addr) (hs : s.Inv) : (s.enter ret b vec).Inv :=
  State.wf_enter ret b vec hs

theorem takeNmi_inv (hs : s.Inv) : s.takeNmi.Inv := by
  have hclear : ({ s with nmiPending := false } : State).Inv := hs
  have hentry := enter_inv s.pc false Config.vecNmi hclear
  rwa [State.takeNmi]

theorem takeIrq_inv (hs : s.Inv) : s.takeIrq.Inv := by
  have hentry := enter_inv s.pc false Config.vecIrq hs
  rwa [State.takeIrq]

/-- Settles O43: a reset leaves memory alone, an entry pushes, an instruction stores, and each store keeps the form. -/
theorem everyStepKeepsMemoryCanonical : Obligations.EveryStepKeepsMemoryCanonical := by
  intro s t hs h
  have hinput : s.takeInput.Inv := inv_of_mem_eq (State.takeInput_mem s) hs
  obtain ⟨-, rfl⟩ | ⟨-, rfl⟩ | ⟨-, rfl⟩ | ⟨-, u, hu, rfl⟩ := step_cases h
  · exact inv_of_mem_eq (State.takeReset_mem s.takeInput _) hinput
  · exact takeNmi_inv hinput
  · exact takeIrq_inv hinput
  · exact inv_of_mem_eq (finishStep_mem s.fetch s.takeInput u) (exec_inv hu hinput)

/-! ### Where an instruction stores a byte (R51, R56) -/

/-- The addresses at which an instruction stores a byte, in the order of its stores: the effective address (R51), or
bytes of the stack page (R56). -/
def storedAt (m : Mnemonic) (o : Operand) (s : State) : List Addr :=
  match o with
  | .mem o => match m with
    | .STA | .STX | .STY | .SAX | .AHX | .SHX | .SHY | .TAS | .ASL | .LSR | .ROL | .ROR | .INC | .DEC | .SLO | .RLA
    | .SRE | .RRA | .DCP | .ISC => [o.ea s]
    | .JSR => [stackAddr s.sp, stackAddr (s.sp - 1)]
    | _ => []
  | .implicit => match m with
    | .PHA | .PHP => [stackAddr s.sp]
    | .BRK => [stackAddr s.sp, stackAddr (s.sp - 1), stackAddr (s.sp - 1 - 1)]
    | _ => []
  | _ => []

/-- The memory of `t` is that of `s` after one store at each address of the list, of any bytes. -/
def StoresAt : List Addr → State → State → Prop
  | [], s, t => t.mem = s.mem
  | k :: ks, s, t => ∃ v, StoresAt ks (s.write k v) t

theorem StoresAt.none (h : t.mem = s.mem) : StoresAt [] s t := h

theorem StoresAt.store {k : Addr} {v : Byte} {ks : List Addr} (h : StoresAt ks (s.write k v) t) :
    StoresAt (k :: ks) s t :=
  ⟨v, h⟩

theorem StoresAt.one {k : Addr} {v : Byte} (h : t.mem = (s.write k v).mem) : StoresAt [k] s t :=
  .store (.none h)

/-- An address reads as before when it is none of those stored at, or no RAM lies there (R64). -/
theorem StoresAt.read_eq {ks : List Addr} (h : StoresAt ks s t) (hset : t.settings = s.settings)
    (hsteps : t.steps = s.steps) {a : Addr} (ha : a ∈ ks → s.writable a = false) : t.read a = s.read a := by
  induction ks generalizing s with
  | nil => exact State.read_congr hset h hsteps a
  | cons k ks ih =>
    obtain ⟨v, h⟩ := h
    have hk : ¬ (a = k ∧ s.writable k = true) := by
      rintro ⟨rfl, hw⟩
      simp [ha List.mem_cons_self] at hw
    rw [ih h hset hsteps fun hm => ha (List.mem_cons_of_mem k hm), State.read_write, if_neg hk]

/-- An entry stores the two bytes of the return address, then P (R338). -/
theorem enter_storesAt (s : State) (ret : Addr) (b : Bool) (vec : Addr) :
    StoresAt [stackAddr s.sp, stackAddr (s.sp - 1), stackAddr (s.sp - 1 - 1)] s (s.enter ret b vec) :=
  ⟨hi ret, lo ret, s.p.toByte b, rfl⟩

/-- The operations on an operand of memory or on an immediate byte store at its address, or nowhere. -/
theorem memMeaning_storesAt {m : Mnemonic} {o : MemOperand} (hr : m ≠ .JSR) (h : memMeaning m o s = .next t) :
    StoresAt (storedAt m (.mem o) s) s t := by
  cases m
  case JSR => exact absurd rfl hr
  case STA | STX | STY | SAX | ASL | LSR | ROL | ROR | INC | DEC | SLO | RLA | SRE | DCP =>
    cases h
    exact .one rfl
  case AHX | TAS | SHY | SHX =>
    obtain ⟨-, rfl⟩ := opUnstableStore_next.mp h
    exact .one rfl
  case RRA =>
    obtain ⟨r, -, rfl⟩ := opRra_next.mp h
    exact .one rfl
  case ISC =>
    obtain ⟨r, -, rfl⟩ := opIsc_next.mp h
    exact .one rfl
  case ADC =>
    obtain ⟨r, -, rfl⟩ := opAdc_next.mp h
    exact .none rfl
  case SBC =>
    obtain ⟨r, -, rfl⟩ := opSbc_next.mp h
    exact .none rfl
  case ARR =>
    obtain ⟨-, rfl⟩ := opArr_next.mp h
    exact .none rfl
  case LAX => cases o <;> cases h <;> exact .none rfl
  all_goals
    cases h
    exact .none rfl

/-- The instructions without an operand: BRK stores three bytes on the stack, PHA and PHP one, the others none. -/
theorem implicit_storesAt {i : Instr} (ho : i.operand = .implicit) (h : exec i s = .next t) :
    StoresAt (storedAt i.mnemonic .implicit s) s t := by
  by_cases hi : i.mnemonic = .STP
  · cases stp_next hi h
    rw [hi]
    exact .none rfl
  -- `ho` and `hi` leave the 31 cells of implicit mode that are not STP.
  cases i <;> try contradiction
  case brk =>
    cases h
    exact enter_storesAt ..
  case pha | php =>
    cases h
    exact .one rfl
  case nop1A | nop3A | nop5A | nop7A | nopDA | nopFA =>
    cases (undocumented_eq_next.mp h).2
    exact .none rfl
  all_goals
    cases h
    exact .none rfl

/-- Every instruction stores at its addresses of `storedAt`, and changes no other memory. -/
theorem exec_storesAt {i : Instr} (h : exec i s = .next t) : StoresAt (storedAt i.mnemonic i.operand s) s t := by
  by_cases hr : i.mnemonic = .JSR
  · cases i <;> cases hr
    cases h
    exact .store (.one rfl)
  by_cases hj : i.mnemonic = .JMP
  · cases i <;> cases hj <;> cases h <;> exact .none rfl
  cases ho : i.operand with
  | mem o =>
    rw [exec_mem s ho hj hr] at h
    exact memMeaning_storesAt hr (behindGate_next h)
  | accumulator | relative | indirect => cases i <;> cases ho <;> cases h <;> exact .none rfl
  | implicit => exact implicit_storesAt ho h

/-- The mnemonics that R51 lists as writing a data byte or the stack. -/
def memoryWriters : List Mnemonic :=
  [.STA, .STX, .STY, .SAX, .AHX, .SHX, .SHY, .TAS, .ASL, .LSR, .ROL, .ROR, .INC, .DEC, .SLO, .RLA, .SRE, .RRA, .DCP,
    .ISC, .PHA, .PHP, .JSR, .BRK]

theorem mem_memoryWriters_of_storedAt_ne_nil {m : Mnemonic} {o : Operand} (h : storedAt m o s ≠ []) :
    m ∈ memoryWriters := by
  cases o with
  | mem | implicit => cases m <;> simp [storedAt, memoryWriters] at h ⊢
  | accumulator | relative | indirect => exact absurd rfl h

theorem storedAt_mem_subset {m : Mnemonic} {o : MemOperand} (hr : m ≠ .JSR) : storedAt m (.mem o) s ⊆ [o.ea s] := by
  cases m
  case JSR => exact absurd rfl hr
  all_goals simp [storedAt]

/-- What the instructions of the stack store lies in the stack page (R56). -/
theorem hi_of_mem_storedAt {m : Mnemonic} {o : Operand} (hm : m ∈ [.PHA, .PHP, .JSR, .BRK]) :
    ∀ k ∈ storedAt m o s, hi k = 0x01 := by
  have hstack : ∀ p, hi (stackAddr p) = 0x01 := hi_join 0x01
  simp only [List.mem_cons, List.not_mem_nil, or_false] at hm
  cases o with
  | mem | implicit => rcases hm with rfl | rfl | rfl | rfl <;> simp [storedAt, hstack]
  | accumulator | relative | indirect => simp [storedAt]

/-- Settles O50, from the rows of `storedAt`. -/
theorem onlyTheNamedInstructionsWriteMemory : Obligations.OnlyTheNamedInstructionsWriteMemory := by
  intro i s t h
  have hst := exec_storesAt h
  obtain ⟨hset, hsteps⟩ := exec_settings_steps h
  have hread : ∀ {k}, k ∉ storedAt i.mnemonic i.operand s → t.read k = s.read k :=
    fun hk => hst.read_eq hset hsteps fun hm => absurd hm hk
  refine ⟨fun hm => ?_, fun o ho hr k hk => hread fun hmem => ?_, fun hm k hk => hread fun hmem => ?_,
    fun ho => ?_, fun k hk => ?_⟩
  · rwa [not_ne_iff.mp (mt mem_memoryWriters_of_storedAt_ne_nil hm)] at hst
  · exact hk (List.mem_singleton.mp (storedAt_mem_subset hr (ho ▸ hmem)))
  · exact hk (hi_of_mem_storedAt hm k hmem)
  · rwa [ho] at hst
  · exact hst.read_eq hset hsteps fun _ => Bool.eq_false_iff.mpr (mt State.writable_iff.mp hk)

/-! ### The stack primitives (R57 to R61) -/

theorem State.read_push_top (v : Byte) (h : s.writable (stackAddr s.sp) = true) :
    (s.push v).read (stackAddr s.sp) = v := by
  rw [State.read_push, if_pos ⟨rfl, h⟩]

/-- The low byte of a 16-bit push (R59). -/
theorem State.read_push16_low (w : Addr) (h : s.writable (stackAddr (s.sp - 1)) = true) :
    (s.push16 w).read (stackAddr (s.sp - 1)) = lo w := by
  rw [State.read_push16, if_pos ⟨rfl, h⟩]

/-- The high byte of a 16-bit push, which the push of the low byte leaves alone (R59). -/
theorem State.read_push16_high (w : Addr) (h : s.writable (stackAddr s.sp) = true) :
    (s.push16 w).read (stackAddr s.sp) = hi w := by
  have hne : stackAddr s.sp ≠ stackAddr (s.sp - 1) := by
    rw [Ne, stackAddr_inj]
    bv_omega
  rw [State.read_push16, if_neg fun e => hne e.1, if_pos ⟨rfl, h⟩]

/-- Settles O34: the forms of the primitives, then the same at S = $00 and at S = $FF. -/
theorem stackPrimitivesWrapInPageOne : Obligations.StackPrimitivesWrapInPageOne := by
  intro s v w
  refine ⟨rfl, ⟨rfl, rfl⟩, ⟨rfl, State.read_push16_low w, State.read_push16_high w⟩, ⟨?_, ?_⟩,
    fun h0 => ?_, fun hFF => ?_⟩
  · rw [State.top16_eq, BitVec.add_assoc]
    rfl
  · rw [State.drop16, State.drop, State.drop, State.setSp, State.setSp, BitVec.add_assoc]
    rfl
  · have htop : stackAddr s.sp = 0x0100 := by rw [h0]; rfl
    have hnext : stackAddr (s.sp - 1) = 0x01FF := by rw [h0]; rfl
    refine ⟨by rw [State.push_sp, h0]; rfl, fun hw => ?_, fun hw => ?_⟩
    · rw [← htop] at hw ⊢
      exact ⟨State.read_push_top v hw, State.read_push16_high w hw⟩
    · rw [← hnext] at hw ⊢
      exact State.read_push16_low w hw
  · rw [State.top, State.drop_sp, hFF]
    exact ⟨rfl, rfl⟩

end Sys2Proof.Machine
end

section
/-! Proofs of the statements of `30_encoding.md`: decoding and encoding are inverse (R80, R81, R101, R102), and the
addressing modes (R82 to R96). `Cell.Holds` says what a cell of the matrix makes of its operand bytes. That the matrix
and the encoder agree is said once in each direction, `cellOf_opcode_holds` and `encode_eq_of_cellOf_holds`, and
`decode_eq_ok_iff` follows from the two. -/

namespace Sys2Proof

/-! ### The matrix and the encoder (R80, R98, R99) -/

/-- The instruction is the one that the cell makes of the operand bytes, as many as its format has (R80). -/
inductive Cell.Holds : Cell → Instr → List Byte → Prop where
  | f1 (i : Instr) : Holds (.f1 i) i []
  | f2 (mk : Byte → Instr) (b : Byte) : Holds (.f2 mk) (mk b) [b]
  | f3 (mk : Addr → Instr) (a : Addr) : Holds (.f3 mk) (mk a) [lo a, hi a]

/-- Every instruction is the one that the cell of its opcode byte makes of its operand bytes. -/
theorem cellOf_opcode_holds (i : Instr) : (cellOf i.opcode).Holds i i.operand.bytes := by
  cases i <;> constructor

/-- Every instruction of the cell is encoded as the opcode byte and the operand bytes the cell makes it of. -/
def Cell.EncodesAs (op : Byte) : Cell → Prop
  | .f1 i => encode i = [op]
  | .f2 mk => ∀ b, encode (mk b) = [op, b]
  | .f3 mk => ∀ a, encode (mk a) = [op, lo a, hi a]

theorem Cell.EncodesAs.encode_eq {op : Byte} {c : Cell} (hc : c.EncodesAs op) {i : Instr} {xs : List Byte}
    (h : c.Holds i xs) : encode i = op :: xs := by
  cases h with
  | f1 => exact hc
  | f2 _ b => exact hc b
  | f3 _ a => exact hc a

/-- The cells are those of consecutive opcode bytes, the first of them number `n`. -/
def ConsecutiveFrom (n : Nat) : List Cell → Prop
  | [] => True
  | c :: cs => c.EncodesAs (BitVec.ofNat 8 n) ∧ ConsecutiveFrom (n + 1) cs

theorem consecutiveFrom_append {n : Nat} {cs ds : List Cell} :
    ConsecutiveFrom n (cs ++ ds) ↔ ConsecutiveFrom n cs ∧ ConsecutiveFrom (n + cs.length) ds := by
  induction cs generalizing n with
  | nil => simp [ConsecutiveFrom]
  | cons c cs ih => simp [ConsecutiveFrom, ih, and_assoc, Nat.add_assoc, Nat.add_comm 1]

theorem ConsecutiveFrom.getElem {n : Nat} {cs : List Cell} (h : ConsecutiveFrom n cs) {k : Nat} (hk : k < cs.length) :
    cs[k].EncodesAs (BitVec.ofNat 8 (n + k)) := by
  induction cs generalizing n k with
  | nil => simp at hk
  | cons c cs ih =>
    obtain ⟨hc, hcs⟩ := h
    cases k with
    | zero => exact hc
    | succ k => simpa [Nat.add_assoc, Nat.add_comm 1] using ih hcs (Nat.lt_of_succ_lt_succ hk)

/-- The matrix, row by row: cell number k holds the instructions with opcode byte k (R98, R99). -/
theorem opcodeMatrix_consecutive : ConsecutiveFrom 0x00 opcodeMatrix := by
  simp only [opcodeMatrix, consecutiveFrom_append, matrixRow0, matrixRow1, matrixRow2, matrixRow3, matrixRow4,
    matrixRow5, matrixRow6, matrixRow7, matrixRow8, matrixRow9, matrixRowA, matrixRowB, matrixRowC, matrixRowD,
    matrixRowE, matrixRowF, List.length_append, List.length_cons, List.length_nil, ConsecutiveFrom, Cell.EncodesAs,
    encode, Instr.opcode, Instr.operand, Operand.bytes]
  simp

/-- What the cell of an opcode byte makes of operand bytes is encoded as the opcode byte and the operand bytes. -/
theorem encode_eq_of_cellOf_holds {op : Byte} {i : Instr} {xs : List Byte} (h : (cellOf op).Holds i xs) :
    encode i = op :: xs := by
  have hlt : op.toNat < opcodeMatrix.length := opcodeMatrix_length.symm ▸ op.isLt
  have hc := opcodeMatrix_consecutive.getElem hlt
  rw [Nat.zero_add, BitVec.ofNat_toNat, BitVec.setWidth_eq] at hc
  exact hc.encode_eq h

/-! ### Decoding and encoding (R80, R102) -/

/-- Decoding takes from the front the operand bytes that the cell of the opcode byte asks for, the low byte first. -/
theorem decode_cons_eq_ok_iff {op : Byte} {bs rest : List Byte} {i : Instr} :
    decode (op :: bs) = .ok (i, rest) ↔ ∃ xs, (cellOf op).Holds i xs ∧ bs = xs ++ rest := by
  simp only [decode]
  generalize cellOf op = c
  constructor
  · intro h
    split at h <;> cases h
    · exact ⟨_, .f1 _, rfl⟩
    · exact ⟨_, .f2 .., rfl⟩
    · exact ⟨_, .f3 .., by simp⟩
  · rintro ⟨xs, hx, rfl⟩
    cases hx with
    | f1 => rfl
    | f2 => rfl
    | f3 => simp

/-- A byte string decodes to an instruction and a rest exactly when it is the encoding and that rest. -/
theorem decode_eq_ok_iff {bs rest : List Byte} {i : Instr} : decode bs = .ok (i, rest) ↔ bs = encode i ++ rest := by
  constructor
  · intro h
    cases bs with
    | nil => cases h
    | cons op bs =>
      obtain ⟨xs, hx, rfl⟩ := decode_cons_eq_ok_iff.mp h
      rw [encode_eq_of_cellOf_holds hx, List.cons_append]
  · rintro rfl
    exact decode_cons_eq_ok_iff.mpr ⟨_, cellOf_opcode_holds i, rfl⟩

/-- An operand has as many bytes as its mode says (R81). -/
theorem Operand.bytes_length (o : Operand) : o.bytes.length = o.mode.operandBytes := by
  cases o with
  | implicit | accumulator | relative | indirect => rfl
  | mem m => cases m <;> rfl

theorem encode_length (i : Instr) : (encode i).length = i.length := by
  rw [encode, List.length_cons, Operand.bytes_length, Instr.length, Nat.add_comm]

/-- Settles O45: one direction of `decode_eq_ok_iff`. Well-formedness is not needed, since every `Instr` has it. -/
theorem decodeUndoesEncode : Obligations.DecodeUndoesEncode := by
  intro i rest _
  exact decode_eq_ok_iff.mpr rfl

/-- Settles O46: the other direction of `decode_eq_ok_iff`, and the totality of decoding on three bytes. -/
theorem encodeUndoesDecode : Obligations.EncodeUndoesDecode := by
  refine ⟨fun bs rest i h => ?_, fun op b1 b2 => ⟨_, Machine.decode_three op b1 b2⟩⟩
  obtain rfl := decode_eq_ok_iff.mp h
  exact ⟨rfl, rfl, encode_length i⟩

end Sys2Proof

namespace Sys2Proof.Machine

/-! ### The addressing modes (R82 to R96) -/

/-- Settles O32: the three bytes at PC are the encoding of the instruction fetched and a rest, so its operand byte is
the second of them. -/
theorem immediateOperandIsTheFetchedByte : Obligations.ImmediateOperandIsTheFetchedByte := by
  intro s b ho
  refine ⟨?_, rfl⟩
  obtain ⟨rest, hdec⟩ := decode_three (s.read s.pc) (s.read (s.pc + 1)) (s.read (s.pc + 2))
  have hbytes : [s.read s.pc, s.read (s.pc + 1), s.read (s.pc + 2)] = encode s.fetch ++ rest :=
    decode_eq_ok_iff.mp hdec
  simp only [encode, ho, Operand.bytes, List.cons_append, List.cons.injEq] at hbytes
  obtain ⟨-, hb, -⟩ := hbytes
  exact hb.symm

/-- A byte extended to 16 bits is the address of the byte in page zero (R8). -/
theorem zext16_eq_join (v : Byte) : zext16 v = join 0x00 v := by
  apply BitVec.eq_of_toNat_eq
  rw [zext16, BitVec.toNat_setWidth_of_le (by decide), join_toNat]
  simp

/-- The two bytes of a page-zero pointer both come from page zero (R54). -/
theorem State.readZP16_eq_join (s : State) (z : Byte) :
    s.readZP16 z = join (s.read (join 0x00 (z + 1))) (s.read (join 0x00 z)) := by
  rw [State.readZP16, zext16_eq_join, zext16_eq_join]

theorem crossed_iff (o : MemOperand) (s : State) : o.crossed s = true ↔ hi (o.base s) ≠ hi (o.ea s) := bne_iff_ne

/-- Outside immediate mode the operand byte is the byte at the effective address (R82, R89). -/
theorem value_eq_read {o : MemOperand} (s : State) (h : ∀ b, o ≠ .imm b) : o.value s = s.read (o.ea s) := by
  cases o with
  | imm b => exact absurd rfl (h b)
  | zp | zpX | zpY | abs | absX | absY | indX | indY => rfl

/-- Settles O31: each form by its row of `ea` and `base`, the page-zero addresses and the index written with `join`. -/
theorem addressingModesGiveTheEffectiveAddress : Obligations.AddressingModesGiveTheEffectiveAddress := by
  intro b a s
  have hX : a + zext16 s.x = a + join 0x00 s.x := by rw [zext16_eq_join]
  have hY : a + zext16 s.y = a + join 0x00 s.y := by rw [zext16_eq_join]
  refine ⟨⟨rfl, rfl⟩, zext16_eq_join b, zext16_eq_join (b + s.x), zext16_eq_join (b + s.y), rfl,
    ⟨rfl, hX⟩, ⟨rfl, hY⟩, s.readZP16_eq_join (b + s.x), s.readZP16_eq_join b, ?_,
    fun o => ⟨crossed_iff o s, value_eq_read s⟩⟩
  rw [MemOperand.ea, State.readZP16_eq_join, zext16_eq_join]

end Sys2Proof.Machine
end

section
/-! Proofs of the statements of `40_load_store.md`: the loads (R120 to R122), the stores (R123 to R125), and the byte
strings that the rules write out (R98). `exec_documented` takes a documented cell to the operation of its mnemonic, and
`encodings_eq_rows` reads the "Encodings" line of a rule off the matrix, sixteen cells at a time. -/

namespace Sys2Proof.Machine

/-- A cell with such an operand that stands in no class of the policy table has the meaning of its mnemonic (R270). -/
theorem exec_documented {i : Instr} {m : Mnemonic} {o : MemOperand} (s : State) (hi : i.mnemonic = m)
    (ho : i.operand = .mem o) (hc : memClass m o i.opcode = none := by rfl) (hj : m ≠ .JMP := by decide)
    (hr : m ≠ .JSR := by decide) : exec i s = memMeaning m o s := by
  subst hi
  rw [exec_mem s ho hj hr, hc, behindGate]

/-! ### The "Encodings" lines of the rules (R98, R380) -/

/-- The entry of `encodings m` for one cell with its cycle count and its opcode byte, if the cell is one of `m`. -/
def encodingOf (m : Mnemonic) (e : (Cell × CycleCount) × Nat) : Option (Mode × Byte × CycleCount) :=
  if (fillCell e.1.1 0 0).mnemonic = m then
    some ((fillCell e.1.1 0 0).operand.mode, BitVec.ofNat 8 e.2, e.1.2)
  else none

/-- The encodings of `m` among the cells of consecutive opcode bytes, the first of them number `n`. -/
def encodingsFrom (m : Mnemonic) (n : Nat) (cells : List Cell) (counts : List CycleCount) :
    List (Mode × Byte × CycleCount) :=
  ((cells.zip counts).zipIdx n).filterMap (encodingOf m)

theorem encodings_eq_encodingsFrom (m : Mnemonic) : encodings m = encodingsFrom m 0x00 opcodeMatrix cycleMatrix := rfl

theorem encodingsFrom_append (m : Mnemonic) (n : Nat) {cells : List Cell} {counts : List CycleCount}
    (h : cells.length = counts.length) (cells' : List Cell) (counts' : List CycleCount) :
    encodingsFrom m n (cells ++ cells') (counts ++ counts') =
      encodingsFrom m n cells counts ++ encodingsFrom m (n + cells.length) cells' counts' := by
  rw [encodingsFrom, List.zip_append h, List.zipIdx_append, List.filterMap_append, List.length_zip, ← h, Nat.min_self,
    encodingsFrom, encodingsFrom]

/-- The encodings of a mnemonic, row by row of the matrix (R98). -/
theorem encodings_eq_rows (m : Mnemonic) : encodings m =
    encodingsFrom m 0x00 matrixRow0 cycleRow0 ++ (encodingsFrom m 0x10 matrixRow1 cycleRow1 ++
    (encodingsFrom m 0x20 matrixRow2 cycleRow2 ++ (encodingsFrom m 0x30 matrixRow3 cycleRow3 ++
    (encodingsFrom m 0x40 matrixRow4 cycleRow4 ++ (encodingsFrom m 0x50 matrixRow5 cycleRow5 ++
    (encodingsFrom m 0x60 matrixRow6 cycleRow6 ++ (encodingsFrom m 0x70 matrixRow7 cycleRow7 ++
    (encodingsFrom m 0x80 matrixRow8 cycleRow8 ++ (encodingsFrom m 0x90 matrixRow9 cycleRow9 ++
    (encodingsFrom m 0xA0 matrixRowA cycleRowA ++ (encodingsFrom m 0xB0 matrixRowB cycleRowB ++
    (encodingsFrom m 0xC0 matrixRowC cycleRowC ++ (encodingsFrom m 0xD0 matrixRowD cycleRowD ++
    (encodingsFrom m 0xE0 matrixRowE cycleRowE ++ encodingsFrom m 0xF0 matrixRowF cycleRowF)))))))))))))) := by
  rw [encodings_eq_encodingsFrom, opcodeMatrix, cycleMatrix]
  simp only [List.append_assoc]
  repeat rw [encodingsFrom_append m _ rfl]
  rfl

/-! ### The loads (R120 to R122) -/

/-- `SetZN` with N as bit 7 of the byte (R8). -/
theorem State.setZN_eq (s : State) (v : Byte) :
    s.setZN v = { s with p := { s.p with z := v == 0, n := v.getLsbD 7 } } := rfl

theorem opLda_eq (o : MemOperand) (s : State) : opLda o s = .next { s with
    a := o.value s
    p := { s.p with z := o.value s == 0, n := (o.value s).getLsbD 7 }
    pc := s.pc + BitVec.ofNat 16 o.length } := by
  rw [opLda, State.setZN_eq]
  rfl

theorem opLdx_eq (o : MemOperand) (s : State) : opLdx o s = .next { s with
    x := o.value s
    p := { s.p with z := o.value s == 0, n := (o.value s).getLsbD 7 }
    pc := s.pc + BitVec.ofNat 16 o.length } := by
  rw [opLdx, State.setZN_eq]
  rfl

theorem opLdy_eq (o : MemOperand) (s : State) : opLdy o s = .next { s with
    y := o.value s
    p := { s.p with z := o.value s == 0, n := (o.value s).getLsbD 7 }
    pc := s.pc + BitVec.ofNat 16 o.length } := by
  rw [opLdy, State.setZN_eq]
  rfl

/-- Settles O1: each mnemonic has one operation, whatever the mode of its operand. -/
theorem loadsWriteTheirRegister : Obligations.LoadsWriteTheirRegister := by
  refine ⟨fun i o s hi ho => ?_, fun i o s hi ho => ?_, fun i o s hi ho => ?_, ?_, ?_, ?_⟩
  · rw [exec_documented s hi ho, length_mem ho]
    exact opLda_eq o s
  · rw [exec_documented s hi ho, length_mem ho]
    exact opLdx_eq o s
  · rw [exec_documented s hi ho, length_mem ho]
    exact opLdy_eq o s
  all_goals exact (encodings_eq_rows _).trans rfl

/-! ### The stores (R123 to R125) -/

/-- A store completes: the byte at the effective address is the one stored where RAM lies there, and PC is past the
instruction; nothing else changes (R64, R89). -/
theorem opStore_frame (v : Byte) (o : MemOperand) (s : State) : ∃ t, opStore v o s = .next t ∧
    { t with mem := s.mem } = { s with pc := s.pc + BitVec.ofNat 16 o.length } ∧
    (s.writable (o.ea s) = true → t.read (o.ea s) = v) ∧ ∀ k, k ≠ o.ea s → t.read k = s.read k :=
  ⟨_, opStore_next.mpr rfl, rfl, State.read_write_same v, fun _ hk => State.read_write_other s v hk⟩

/-- Settles O2: the three mnemonics are one store, of A, X or Y. -/
theorem storesWriteOneByteAtTheEffectiveAddress : Obligations.StoresWriteOneByteAtTheEffectiveAddress := by
  refine ⟨fun i o s hi ho => ?_, fun i o s hi ho => ?_, fun i o s hi ho => ?_, ?_, ?_, ?_⟩
  · rw [exec_documented s hi ho, length_mem ho]
    exact opStore_frame s.a o s
  · rw [exec_documented s hi ho, length_mem ho]
    exact opStore_frame s.x o s
  · rw [exec_documented s hi ho, length_mem ho]
    exact opStore_frame s.y o s
  all_goals exact (encodings_eq_rows _).trans rfl

/-! ### The byte strings of the rules -/

/-- Settles O47: each byte string is the encoding of the instruction that its rule names. -/
theorem wordsOfTheSpecDecode : Obligations.WordsOfTheSpecDecode := by
  simp only [Obligations.WordsOfTheSpecDecode, decode_eq_ok_iff]
  exact ⟨rfl, rfl, rfl, rfl, rfl, rfl, rfl, rfl, rfl, rfl, rfl, rfl⟩

end Sys2Proof.Machine
end

section
/-! Proofs of the statements of `41_transfer_stack.md`: the transfers (R140 to R145), the stack instructions (R146 to
R149), and the pairs that give back what they saved: PHP with PLP, BRK with RTI. Nine ROL A (R192) turn the nine bits
of C and A once round. -/

namespace Sys2Proof.Machine

variable {s : State}

/-! ### The transfers (R140 to R145) -/

/-- The end of an instruction that sets Z and N from a byte and goes on to the next one (R8, R27). -/
theorem next_setZN_advance (s : State) (v : Byte) (n : Nat) : (.next ((s.setZN v).advance n) : Result) = .next { s with
    p := { s.p with z := v == 0, n := v.getLsbD 7 }
    pc := s.pc + BitVec.ofNat 16 n } := by
  rw [State.setZN_eq]
  rfl

/-- Settles O3: a transfer sets its register, then Z and N from the byte copied; TXS sets S alone. -/
theorem transfersCopyARegister : Obligations.TransfersCopyARegister := by
  refine ⟨fun s => ⟨next_setZN_advance (s.setX s.a) s.a 1, next_setZN_advance (s.setY s.a) s.a 1,
    next_setZN_advance (s.setX s.sp) s.sp 1, next_setZN_advance (s.setA s.x) s.x 1, rfl,
    next_setZN_advance (s.setA s.y) s.y 1⟩, ?_, ?_, ?_, ?_, ?_, ?_⟩
  all_goals exact (encodings_eq_rows _).trans rfl

/-! ### The stack instructions (R146 to R149) -/

/-- A push changes no byte but the one at the top (R57). -/
theorem State.read_push_other (s : State) (v : Byte) {k : Addr} (hk : k ≠ stackAddr s.sp) :
    (s.push v).read k = s.read k := by
  rw [State.read_push, if_neg fun e => hk e.1]

/-- An instruction that pushes one byte and goes on to the next one: the byte lies at the old S where RAM does, S is
one lower, and nothing else changes. -/
theorem exec_push_frame {i : Instr} {v : Byte} (h : exec i s = .next ((s.push v).advance 1)) :
    ∃ t, exec i s = .next t ∧ { t with mem := s.mem } = { s with sp := s.sp - 1, pc := s.pc + 1 } ∧
      (s.writable (join 0x01 s.sp) = true → t.read (join 0x01 s.sp) = v) ∧
      ∀ k, k ≠ join 0x01 s.sp → t.read k = s.read k :=
  ⟨_, h, rfl, State.read_push_top v, fun _ hk => s.read_push_other v hk⟩

theorem exec_plp (s : State) :
    exec .plp s = .next { s with sp := s.sp + 1, p := Flags.ofByte s.top, pc := s.pc + 1 } := rfl

theorem exec_pla (s : State) : exec .pla s = .next { s with
    a := s.top
    sp := s.sp + 1
    p := { s.p with z := s.top == 0, n := s.top.getLsbD 7 }
    pc := s.pc + 1 } :=
  next_setZN_advance (s.drop.setA s.top) s.top 1

/-- Settles O4: PHA and PHP are one push, PLA and PLP read the byte above S. -/
theorem stackInstructionsPushAndPull : Obligations.StackInstructionsPushAndPull := by
  refine ⟨fun _ => exec_push_frame rfl, fun _ => exec_push_frame rfl, exec_pla, exec_plp, ⟨rfl, rfl⟩,
    ?_, ?_, ?_, ?_⟩
  all_goals exact (encodings_eq_rows _).trans rfl

/-! ### What is pulled after it was pushed (R149, R260, R261) -/

/-- A pull after a push gives the byte pushed (R57, R58). -/
theorem State.top_push (v : Byte) (h : s.writable (stackAddr s.sp) = true) : (s.push v).top = v := by
  rw [State.top, State.push_sp, BitVec.sub_add_cancel, State.read_push_top v h]

/-- Of a push and a pull only the byte stored remains (R57, R58). -/
theorem State.drop_push (s : State) (v : Byte) : (s.push v).drop = s.write (stackAddr s.sp) v := by
  rw [State.drop, State.push_sp, BitVec.sub_add_cancel]
  rfl

/-- Going on twice (R27). -/
theorem State.advance_advance (s : State) (m n : Nat) : (s.advance m).advance n = s.advance (m + n) := by
  rw [State.advance, State.advance_pc, BitVec.add_assoc, ← BitVec.ofNat_add]
  rfl

/-- PLP after PHP: the byte stored and PC two bytes on remain of the two (R147, R149). -/
theorem exec_php_plp (h : s.writable (stackAddr s.sp) = true) :
    andThen (exec .php s) (exec .plp) = .next ((s.write (stackAddr s.sp) (s.p.toByte true)).advance 2) := by
  have hp : Flags.ofByte (s.push (s.p.toByte true)).top = s.p := by rw [State.top_push _ h, Flags.ofByte_toByte]
  calc andThen (exec .php s) (exec .plp)
      = .next ((((s.push (s.p.toByte true)).drop.setP
          (Flags.ofByte (s.push (s.p.toByte true)).top)).advance 1).advance 1) := rfl
    _ = .next ((s.write (stackAddr s.sp) (s.p.toByte true)).advance 2) := by
      rw [hp, State.drop_push, State.advance_advance]
      rfl

/-- The three bytes of a stack frame lie at different addresses, also where S wraps (R56). -/
theorem stackAddr_sub_one_ne (p : Byte) : stackAddr p ≠ stackAddr (p - 1) := by
  rw [Ne, stackAddr_inj]
  bv_omega

theorem stackAddr_sub_two_ne (p : Byte) : stackAddr p ≠ stackAddr (p - 1 - 1) := by
  rw [Ne, stackAddr_inj]
  bv_omega

/-- The status byte of a stack frame (R338). -/
theorem State.read_pushFrame_status (ret : Addr) (b : Bool) (h : s.writable (stackAddr (s.sp - 1 - 1)) = true) :
    (s.pushFrame ret b).read (stackAddr (s.sp - 1 - 1)) = s.p.toByte b :=
  State.read_push_top (s := s.push16 ret) _ h

/-- The low byte of the return address in a stack frame, which the push of P leaves alone (R338). -/
theorem State.read_pushFrame_low (ret : Addr) (b : Bool) (h : s.writable (stackAddr (s.sp - 1)) = true) :
    (s.pushFrame ret b).read (stackAddr (s.sp - 1)) = lo ret :=
  ((s.push16 ret).read_push_other _ (stackAddr_sub_one_ne _)).trans (State.read_push16_low ret h)

/-- The high byte of the return address in a stack frame, which the push of P leaves alone (R338). -/
theorem State.read_pushFrame_high (ret : Addr) (b : Bool) (h : s.writable (stackAddr s.sp) = true) :
    (s.pushFrame ret b).read (stackAddr s.sp) = hi ret :=
  ((s.push16 ret).read_push_other _ (stackAddr_sub_two_ne _)).trans (State.read_push16_high ret h)

/-- Where the memory is that of a stack frame, no byte but the three of the frame is changed (R338). -/
theorem State.read_of_pushFrame {t : State} (ret : Addr) (b : Bool) {k : Addr} (h0 : k ≠ stackAddr s.sp)
    (h1 : k ≠ stackAddr (s.sp - 1)) (h2 : k ≠ stackAddr (s.sp - 1 - 1))
    (hmem : t.mem = (s.pushFrame ret b).mem := by rfl) (hset : t.settings = s.settings := by rfl)
    (hsteps : t.steps = s.steps := by rfl) : t.read k = s.read k := by
  rw [State.read_congr (hset.trans (s.pushFrame_settings ret b).symm) hmem
    (hsteps.trans (s.pushFrame_steps ret b).symm), State.read_pushFrame, if_neg fun e => h2 e.1,
    if_neg fun e => h1 e.1, if_neg fun e => h0 e.1]

/-- The return from an entry gives back the flags and S, and goes to the address pushed; the stack frame remains in
memory (R338, R340). -/
theorem State.returnFromInterrupt_enter (ret : Addr) (b : Bool) (vec : Addr)
    (h0 : s.writable (stackAddr s.sp) = true) (h1 : s.writable (stackAddr (s.sp - 1)) = true)
    (h2 : s.writable (stackAddr (s.sp - 1 - 1)) = true) :
    (s.enter ret b vec).returnFromInterrupt = { s with pc := ret, mem := (s.pushFrame ret b).mem } := by
  rw [State.returnFromInterrupt_eq]
  simp only [State.read_enter, State.enter_sp, BitVec.sub_add_cancel, State.read_pushFrame_status ret b h2,
    State.read_pushFrame_low ret b h1, State.read_pushFrame_high ret b h0, join_hi_lo, Flags.ofByte_toByte]
  rw [State.enter_eq]

/-- RTI after BRK: the stack frame and PC two bytes on remain of the two (R260, R261). -/
theorem exec_brk_rti (h0 : s.writable (stackAddr s.sp) = true) (h1 : s.writable (stackAddr (s.sp - 1)) = true)
    (h2 : s.writable (stackAddr (s.sp - 1 - 1)) = true) : andThen (exec .brk s) (exec .rti) =
    .next { s with pc := s.pc + 2, mem := (s.pushFrame (s.pc + 2) true).mem } :=
  calc andThen (exec .brk s) (exec .rti)
      = .next (s.enter (s.pc + 2) true Config.vecIrq).returnFromInterrupt := rfl
    _ = .next { s with pc := s.pc + 2, mem := (s.pushFrame (s.pc + 2) true).mem } := by
      rw [State.returnFromInterrupt_enter _ _ _ h0 h1 h2]

/-! ### Nine rotations of A through C (R192) -/

/-- One rotation of a byte and a carry. -/
def rolPair (r : Byte × Bool) : Byte × Bool := rolByte r.1 r.2

/-- The ring that a byte and a carry form, C above bit 7 and below bit 0: its bit number `k`, counted round. -/
def ringBit (r : Byte × Bool) (k : Nat) : Bool := (BitVec.cons r.2 r.1).getLsbD (k % 9)

theorem ring_ext {q r : Byte × Bool} (h : ∀ k, ringBit q k = ringBit r k) : q = r := by
  have hcons : BitVec.cons q.2 q.1 = BitVec.cons r.2 r.1 := BitVec.eq_of_getLsbD_eq fun k hk => by
    simpa [ringBit, Nat.mod_eq_of_lt hk] using h k
  refine Prod.ext ?_ ?_
  · simpa using congrArg (BitVec.setWidth 8) hcons
  · simpa using congrArg BitVec.msb hcons

theorem bitByte_getElem (c : Bool) {k : Nat} (hk : k < 8) : (bitByte c)[k] = (c && decide (k = 0)) := by
  cases c <;> simp [bitByte]

/-- A rotation moves each bit one place round the ring (R192). -/
theorem ringBit_rolPair (r : Byte × Bool) (k : Nat) : ringBit (rolPair r) (k + 1) = ringBit r k := by
  obtain ⟨v, c⟩ := r
  have hlt : k % 9 < 9 := Nat.mod_lt k (by decide)
  rw [ringBit, ringBit, Nat.add_mod]
  generalize k % 9 = j at hlt
  rcases (by omega : j = 8 ∨ j = 7 ∨ j < 7) with rfl | rfl | hj
  · -- C comes in as bit 0.
    simp [rolPair, rolByte, BitVec.getElem_cons, bitByte_getElem]
  · -- Bit 7 goes out to C.
    simp [rolPair, rolByte, BitVec.getElem_cons]
  · -- A bit of A below bit 7 moves up by one.
    have hmod : (j + 1) % 9 = j + 1 := Nat.mod_eq_of_lt (by omega)
    have hj8 : j < 8 := by omega
    have hsucc : j + 1 < 8 := by omega
    simp [rolPair, rolByte, BitVec.getLsbD_cons, bitByte_getElem, hmod, hj.ne, hj8, hj8.ne, hsucc]

theorem ringBit_iterate_rolPair (n : Nat) (r : Byte × Bool) (k : Nat) :
    ringBit (rolPair^[n] r) (k + n) = ringBit r k := by
  induction n with
  | zero => rfl
  | succ n ih => rw [Function.iterate_succ_apply', ← Nat.add_assoc, ringBit_rolPair, ih]

/-- The ring has nine places. -/
theorem iterate_rolPair_nine (r : Byte × Bool) : rolPair^[9] r = r :=
  ring_ext fun k => by
    rw [← ringBit_iterate_rolPair 9 r k, ringBit, ringBit, Nat.add_mod_right]

/-- The state with A and C rotated `n` times, Z and N from A, and PC past `n` bytes. -/
def State.rolledA (s : State) (n : Nat) : State :=
  let r := rolPair^[n] (s.a, s.p.c)
  { s with a := r.1, p := { s.p with c := r.2, z := r.1 == 0, n := r.1.getLsbD 7 }, pc := s.pc + BitVec.ofNat 16 n }

theorem exec_rolAcc (s : State) : exec .rolAcc s = .next (s.rolledA 1) :=
  next_setZN_advance ((s.setA (rolByte s.a s.p.c).1).setC (rolByte s.a s.p.c).2) _ 1

theorem State.rolledA_rolledA (s : State) (n : Nat) : (s.rolledA n).rolledA 1 = s.rolledA (n + 1) := by
  simp only [State.rolledA, Function.iterate_succ_apply', Function.iterate_zero, id, BitVec.add_assoc,
    BitVec.ofNat_add]

/-- After nine rotations A and C are as before (R192). -/
theorem State.rolledA_nine (s : State) : s.rolledA 9 = { s with
    p := { s.p with z := s.a == 0, n := s.a.getLsbD 7 }
    pc := s.pc + 9 } := by
  rw [State.rolledA, iterate_rolPair_nine]
  rfl

/-- Instructions ROL A in a row, one or more. -/
theorem foldl_exec_rolAcc (s : State) (n : Nat) :
    (List.range (n + 1)).foldl (fun r _ => andThen r (exec .rolAcc)) (.next s) = .next (s.rolledA (n + 1)) := by
  induction n with
  | zero => exact exec_rolAcc s
  | succ n ih =>
    rw [List.range_succ, List.foldl_append, ih]
    exact (exec_rolAcc _).trans (congrArg Host.Outcome.next (s.rolledA_rolledA (n + 1)))

/-- Settles O56: what was pushed is pulled, and nine rotations turn the ring of A and C once round. -/
theorem savedStatusIsRestored : Obligations.SavedStatusIsRestored := by
  refine ⟨fun s h => ⟨_, exec_php_plp h, rfl, fun _ hk => State.read_write_other s _ hk⟩, fun s h0 h1 h2 => ?_,
    fun s => ?_⟩
  · have hsp : s.sp - 2 = s.sp - 1 - 1 := (BitVec.sub_sub s.sp 1 1).symm
    rw [hsp] at h2 ⊢
    exact ⟨_, exec_brk_rti h0 h1 h2, rfl, fun _ hk0 hk1 hk2 => State.read_of_pushFrame (s.pc + 2) true hk0 hk1 hk2⟩
  · exact (foldl_exec_rolAcc s 8).trans (congrArg Host.Outcome.next s.rolledA_nine)

end Sys2Proof.Machine
end

section
/-! Proofs of the statements of `42_logic_arith.md`: logic and BIT (R160 to R163), the compares (R166 to R168), binary
and decimal addition and subtraction (R164, R165, R171, R274). SBC is ADC of the complement (`sbcBinary_eq_adcBinary`),
so the meaning of V is proved once; a decimal sum is read as a tens digit and a units digit. -/

namespace Sys2Proof.Machine

/-! ### Logic, BIT and the compares (R160 to R163, R166 to R168) -/

theorem writeA_eq (v : Byte) (n : Nat) (s : State) : writeA v n s = .next { s with
    a := v
    p := { s.p with z := v == 0, n := v.getLsbD 7 }
    pc := s.pc + BitVec.ofNat 16 n } :=
  next_setZN_advance (s.setA v) v n

/-- Settles O5: the three operations write a byte to A with `writeA`. -/
theorem logicCombinesAWithTheOperand : Obligations.LogicCombinesAWithTheOperand := by
  refine ⟨fun i o s hi ho => ?_, fun i o s hi ho => ?_, fun i o s hi ho => ?_, ?_, ?_, ?_⟩
  · rw [exec_documented s hi ho, length_mem ho]
    exact writeA_eq (s.a &&& o.value s) o.length s
  · rw [exec_documented s hi ho, length_mem ho]
    exact writeA_eq (s.a ||| o.value s) o.length s
  · rw [exec_documented s hi ho, length_mem ho]
    exact writeA_eq (s.a ^^^ o.value s) o.length s
  all_goals exact (encodings_eq_rows _).trans rfl

theorem opBit_eq (o : MemOperand) (s : State) : opBit o s = .next { s with
    p := { s.p with z := s.a &&& o.value s == 0, v := (o.value s).getLsbD 6, n := (o.value s).getLsbD 7 }
    pc := s.pc + BitVec.ofNat 16 o.length } := rfl

/-- Settles O6. -/
theorem bitTestsAAgainstTheOperand : Obligations.BitTestsAAgainstTheOperand := by
  refine ⟨fun i o s hi ho => ?_, (encodings_eq_rows _).trans rfl⟩
  rw [exec_documented s hi ho, length_mem ho]
  exact opBit_eq o s

/-- The end of a compare of a register with a byte (R166). -/
theorem next_setCompare_advance (s : State) (r m : Byte) (n : Nat) :
    (.next ((s.setCompare r m).advance n) : Result) = .next { s with
      p := { s.p with c := decide (m.toNat ≤ r.toNat), z := r == m, n := (r - m).getLsbD 7 }
      pc := s.pc + BitVec.ofNat 16 n } := rfl

/-- Settles O12: the three mnemonics are one compare, of A, X or Y. -/
theorem comparesSetCarryZeroNegative : Obligations.ComparesSetCarryZeroNegative := by
  refine ⟨fun i o s hi ho => ?_, fun i o s hi ho => ?_, fun i o s hi ho => ?_, ?_, ?_, ?_⟩
  · rw [exec_documented s hi ho, length_mem ho]
    exact next_setCompare_advance s s.a (o.value s) o.length
  · rw [exec_documented s hi ho, length_mem ho]
    exact next_setCompare_advance s s.x (o.value s) o.length
  · rw [exec_documented s hi ho, length_mem ho]
    exact next_setCompare_advance s s.y (o.value s) o.length
  all_goals exact (encodings_eq_rows _).trans rfl

/-! ### The choice by D and DECIMAL_MODE (R171) -/

section
variable {mode : DecimalMode} {d : Bool}

theorem adcSum_eq_binary (h : d = false ∨ mode = .binary) (a m : Byte) (c : Bool) :
    adcSum mode d a m c = some (adcBinary a m c) := by
  rcases h with rfl | rfl
  · exact adcSum_binary mode a m c
  · cases d <;> rfl

theorem sbcSum_eq_binary (h : d = false ∨ mode = .binary) (a m : Byte) (c : Bool) :
    sbcSum mode d a m c = some (sbcBinary a m c) := by
  rcases h with rfl | rfl
  · exact sbcSum_binary mode a m c
  · cases d <;> rfl

theorem exists_adcSum (h : d = false ∨ mode ≠ .refuse) (a m : Byte) (c : Bool) : ∃ r, adcSum mode d a m c = some r := by
  rcases h with rfl | h
  · exact ⟨_, adcSum_binary mode a m c⟩
  · exact adcSum_isSome h d a m c

theorem exists_sbcSum (h : d = false ∨ mode ≠ .refuse) (a m : Byte) (c : Bool) : ∃ r, sbcSum mode d a m c = some r := by
  rcases h with rfl | h
  · exact ⟨_, sbcSum_binary mode a m c⟩
  · exact sbcSum_isSome h d a m c

end

/-! ### ADC and SBC as operations (R164, R165, R171, R274) -/

section
variable {s : State} {o : MemOperand} {i : Instr} {r : Sum}

theorem opAdc_eq (h : adcSum s.params.decimalMode s.p.d s.a (o.value s) s.p.c = some r) : opAdc o s = .next { s with
    a := r.a
    p := { s.p with c := r.c, z := r.z, v := r.v, n := r.n }
    pc := s.pc + BitVec.ofNat 16 o.length } :=
  opAdc_next.mpr ⟨r, h, rfl⟩

theorem opSbc_eq (h : sbcSum s.params.decimalMode s.p.d s.a (o.value s) s.p.c = some r) : opSbc o s = .next { s with
    a := r.a
    p := { s.p with c := r.c, z := r.z, v := r.v, n := r.n }
    pc := s.pc + BitVec.ofNat 16 o.length } :=
  opSbc_next.mpr ⟨r, h, rfl⟩

theorem adc_refused (hm : s.params.decimalMode = .refuse) (hd : s.p.d = true) (m : Byte) :
    adc m s = .refused .decimalModeRefused := by
  rw [adc, hm, hd]
  rfl

theorem sbc_refused (hm : s.params.decimalMode = .refuse) (hd : s.p.d = true) (m : Byte) :
    sbc m s = .refused .decimalModeRefused := by
  rw [sbc, hm, hd]
  rfl

/-- Of the SBC cells only $EB stands in the policy table (R270, R274). -/
theorem memClass_sbc {op : Byte} {cl : UndocClass} (h : memClass .SBC o op = some cl) : op = 0xEB ∧ cl = .same := by
  by_cases hop : op = 0xEB
  · rw [memClass, if_pos hop] at h
    exact ⟨hop, (Option.some.inj h).symm⟩
  · rw [memClass, if_neg hop] at h
    cases h

/-- Every SBC cell that the policy lets have its meaning is the one operation (R274). -/
theorem exec_sbc (hi : i.mnemonic = .SBC) (ho : i.operand = .mem o)
    (hp : i.opcode = 0xEB → s.params.undocPolicy ≠ .refuseAll) : exec i s = opSbc o s := by
  rw [exec_mem_of_allowed s ho (by simp [hi]) (by simp [hi]), hi, memMeaning]
  intro cl hc
  rw [hi] at hc
  obtain ⟨hop, rfl⟩ := memClass_sbc hc
  exact (undocAllowed_iff (by decide)).mpr (hp hop)

end

/-- Settles O9: with a sum both operations complete, and without one both refuse. -/
theorem adcAndSbcByDecimalMode : Obligations.AdcAndSbcByDecimalMode := by
  refine ⟨fun i o s hi ho h => ?_, fun i o s hi ho hd hm => ?_, fun i o s hi ho hp h => ?_,
    fun i o s hi ho hp hd hm => ?_, fun k hk => ?_⟩
  · obtain ⟨r, hr⟩ := exists_adcSum h s.a (o.value s) s.p.c
    refine ⟨r, hr, ?_⟩
    rw [exec_documented s hi ho, length_mem ho]
    exact opAdc_eq hr
  · rw [exec_documented s hi ho, memMeaning, opAdc, adc_refused hm hd]
    rfl
  · obtain ⟨r, hr⟩ := exists_sbcSum h s.a (o.value s) s.p.c
    refine ⟨r, hr, ?_⟩
    rw [exec_sbc hi ho hp, length_mem ho]
    exact opSbc_eq hr
  · rw [exec_sbc hi ho hp, opSbc, sbc_refused hm hd]
    rfl
  · rw [settingsParams, hk]
    cases Config.decimalIsBcd <;> simp

/-! ### Binary addition and subtraction (R164, R165) -/

theorem toInt_emod (v : Byte) : v.toInt % 256 = v.toNat := by
  have hlt := v.isLt
  rw [BitVec.toInt_eq_toNat_cond]
  split <;> omega

/-- The XOR formula of V: both summands have one sign and the result has the other. -/
theorem overflow_formula_iff (a m r : Byte) : ((a ^^^ r) &&& (m ^^^ r)).msb = true ↔
    (a.toInt < 0 ↔ m.toInt < 0) ∧ ¬ (r.toInt < 0 ↔ a.toInt < 0) := by
  rw [BitVec.msb_and, BitVec.msb_xor, BitVec.msb_xor]
  simp only [BitVec.msb_eq_toInt]
  by_cases ha : a.toInt < 0 <;> by_cases hm : m.toInt < 0 <;> by_cases hr : r.toInt < 0 <;> simp [ha, hm, hr]

/-- V says that the signed sum does not fit in a byte: the result differs from it by a multiple of 256 (R164). -/
theorem adcBinary_v_iff (a m : Byte) (c : Bool) : (adcBinary a m c).v = true ↔
    a.toInt + m.toInt + (c.toNat : Int) < -128 ∨ 127 < a.toInt + m.toInt + (c.toNat : Int) := by
  have hr : (adcBinary a m c).a.toNat = (a.toNat + m.toNat + c.toNat) % 256 := BitVec.toNat_ofNat ..
  refine (overflow_formula_iff a m (adcBinary a m c).a).trans ?_
  generalize (adcBinary a m c).a = r at hr
  have hbounds : ∀ v : Byte, -128 ≤ v.toInt ∧ v.toInt ≤ 127 := fun v => ⟨v.le_toInt, Int.le_of_lt_add_one v.toInt_lt⟩
  have ha := hbounds a
  have hm := hbounds m
  have hrb := hbounds r
  have hc := c.toNat_le
  have ea := toInt_emod a
  have em := toInt_emod m
  have er := toInt_emod r
  omega

theorem xor_FF (m : Byte) : m ^^^ 0xFF = ~~~m := BitVec.xor_allOnes

/-- Subtraction is addition of the complement (R165). -/
theorem sbcBinary_eq_adcBinary (a m : Byte) (c : Bool) : sbcBinary a m c = adcBinary a (m ^^^ 0xFF) c := by
  have hlt := m.isLt
  have ht : (a.toNat : Int) - m.toNat - (1 - c.toNat) = ((a.toNat + (~~~m).toNat + c.toNat : Nat) : Int) - 256 := by
    rw [BitVec.toNat_not]
    omega
  have hr : BitVec.ofInt 8 ((a.toNat : Int) - m.toNat - (1 - c.toNat)) =
      BitVec.ofNat 8 (a.toNat + (~~~m).toNat + c.toNat) := by
    apply BitVec.eq_of_toNat_eq
    rw [ht, BitVec.toNat_ofInt, BitVec.toNat_ofNat]
    omega
  -- The carry out of the sum is the absence of a borrow, and the two formulas of V are the same bits.
  have hc : decide (0 ≤ (a.toNat : Int) - m.toNat - (1 - c.toNat)) = decide (255 < a.toNat + (~~~m).toNat + c.toNat) :=
    decide_eq_decide.mpr (by omega)
  have hv : ∀ r : Byte, ((a ^^^ m) &&& (a ^^^ r)).msb = ((a ^^^ r) &&& (~~~m ^^^ r)).msb := fun r => by
    simp only [BitVec.msb_and, BitVec.msb_xor, BitVec.msb_not]
    cases a.msb <;> cases m.msb <;> cases r.msb <;> rfl
  simp only [xor_FF, sbcBinary, adcBinary, hr, hc, hv]

/-- V says that the signed difference does not fit in a byte (R165). -/
theorem sbcBinary_v_iff (a m : Byte) (c : Bool) : (sbcBinary a m c).v = true ↔
    a.toInt - m.toInt - (1 - (c.toNat : Int)) < -128 ∨ 127 < a.toInt - m.toInt - (1 - (c.toNat : Int)) := by
  have hnot : (m ^^^ 0xFF).toInt = -m.toInt - 1 := by
    have hlt := m.isLt
    rw [xor_FF, BitVec.toInt_eq_toNat_cond, BitVec.toInt_eq_toNat_cond, BitVec.toNat_not]
    split <;> split <;> omega
  rw [sbcBinary_eq_adcBinary, adcBinary_v_iff, hnot]
  omega

/-- Settles O7. -/
theorem adcAddsInBinary : Obligations.AdcAddsInBinary := by
  refine ⟨fun i o s hi ho h => ⟨?_, adcBinary_v_iff s.a (o.value s) s.p.c⟩, (encodings_eq_rows _).trans rfl⟩
  rw [exec_documented s hi ho, length_mem ho]
  exact opAdc_eq (adcSum_eq_binary h ..)

/-- Settles O8. -/
theorem sbcSubtractsInBinary : Obligations.SbcSubtractsInBinary := by
  refine ⟨fun i o s hi ho hp h => ⟨?_, sbcBinary_v_iff s.a (o.value s) s.p.c⟩, sbcBinary_eq_adcBinary,
    fun b s hp => ?_, (encodings_eq_rows _).trans rfl⟩
  · rw [exec_sbc hi ho hp, length_mem ho]
    exact opSbc_eq (sbcSum_eq_binary h ..)
  · exact (exec_sbc (o := .imm b) rfl rfl fun _ => hp).trans (exec_sbc rfl rfl fun _ => hp).symm

/-! ### Decimal addition and subtraction (R171) -/

theorem toNat_and_low (v : Byte) : (v &&& 0x0F).toNat = v.toNat % 16 :=
  Nat.and_two_pow_sub_one_eq_mod v.toNat 4

theorem toNat_and_high (v : Byte) : (v &&& 0xF0).toNat = v.toNat / 16 * 16 := by
  have hshift : v &&& (0xF0 : Byte) = v >>> 4 <<< 4 := BitVec.eq_of_getLsbD_eq fun k hk => by
    interval_cases k <;> simp
  have hlt := v.isLt
  rw [hshift, BitVec.toNat_shiftLeft, BitVec.toNat_ushiftRight, Nat.shiftLeft_eq, Nat.shiftRight_eq_div_pow]
  omega

theorem ofNat_beq_zero (t : Nat) : (BitVec.ofNat 8 t == 0) = decide (t % 256 = 0) := by
  rw [beq_eq_decide, decide_eq_decide, ← BitVec.toNat_inj]
  rfl

theorem msb_ofNat (t : Nat) : (BitVec.ofNat 8 t).msb = t.testBit 7 :=
  BitVec.getLsbD_ofNat 8 t 7

/-- Settles O10: the masks of R171 are the digits of the bytes, and the flags are bits of the half-adjusted sum. -/
theorem decimalModeSelectsTheAlgorithm : Obligations.DecimalModeSelectsTheAlgorithm := by
  refine fun a m c => ⟨fun mode => ⟨adcSum_binary mode a m c, sbcSum_binary mode a m c⟩, ⟨rfl, rfl⟩, ?_, ?_, ⟨rfl, rfl⟩,
    fun s hm hd => ⟨adc_refused hm hd m, sbc_refused hm hd m⟩⟩
  · simp only [adcSum, adcDecimal, toNat_and_low, ofNat_beq_zero, msb_ofNat]
    rfl
  · simp only [sbcSum, sbcDecimal, toNat_and_low]

/-- A number below 100 as two decimal digits of four bits. -/
def bcdByte (k : Nat) : Byte := BitVec.ofNat 8 (16 * (k / 10) + k % 10)

theorem bcdByte_digits (t : Nat) {u : Nat} (h : u < 10) : bcdByte (10 * t + u) = BitVec.ofNat 8 (16 * t + u) := by
  have ht : (10 * t + u) / 10 = t := by omega
  have hu : (10 * t + u) % 10 = u := by omega
  rw [bcdByte, ht, hu]

theorem bcdByte_toNat {k : Nat} (h : k < 100) : (bcdByte k).toNat = 16 * (k / 10) + k % 10 := by
  rw [bcdByte, BitVec.toNat_ofNat]
  omega

theorem bcdByte_units {k : Nat} (h : k < 100) : (bcdByte k).toNat % 16 = k % 10 := by
  rw [bcdByte_toNat h]
  omega

theorem bcdByte_tens {k : Nat} (h : k < 100) : (bcdByte k &&& 0xF0).toNat = 16 * (k / 10) := by
  rw [toNat_and_high, bcdByte_toNat h]
  omega

/-- The adjusted sum of the units: the units digit, with the carry to the tens as 16. -/
theorem adc_units_adjust {l : Nat} (h : l < 20) :
    (if 0x0A ≤ l then (l + 0x06) % 16 + 0x10 else l) = 16 * (l / 10) + l % 10 := by
  split <;> omega

/-- The adjusted difference of the units: the units digit, with the borrow from the tens as -16. -/
theorem sbc_units_adjust {l : Int} (h : -10 ≤ l) (h' : l < 10) :
    (if l < 0 then (l - 0x06) % 16 - 0x10 else l) = 16 * (l / 10) + l % 10 := by
  split <;> omega

/-- The adjusted sum of the tens `h`: one hundred goes into C, and the tens digit remains. -/
theorem adc_tens_adjust {h u : Nat} (hh : h < 20) (hu : u < 10) :
    BitVec.ofNat 8 (if 0xA0 ≤ 16 * h + u then 16 * h + u + 0x60 else 16 * h + u) = bcdByte ((10 * h + u) % 100) ∧
      (0x100 ≤ (if 0xA0 ≤ 16 * h + u then 16 * h + u + 0x60 else 16 * h + u) ↔ 100 ≤ 10 * h + u) := by
  refine ⟨BitVec.eq_of_toNat_eq ?_, by split <;> omega⟩
  have hmod : (10 * h + u) % 100 = 10 * (h % 10) + u := by omega
  rw [hmod, bcdByte_digits _ hu, BitVec.toNat_ofNat, BitVec.toNat_ofNat]
  split
  · have hten : h % 10 = h - 10 := by omega
    omega
  · have hten : h % 10 = h := by omega
    omega

/-- The adjusted difference of the tens `h`: one hundred is borrowed where it is negative. -/
theorem sbc_tens_adjust {h u : Int} (hh : -10 ≤ h) (hh' : h < 10) (hu : 0 ≤ u) (hu' : u < 10) :
    BitVec.ofInt 8 (if 16 * h + u < 0 then 16 * h + u - 0x60 else 16 * h + u) = bcdByte ((10 * h + u) % 100).toNat := by
  have hmod : ((10 * h + u) % 100).toNat = 10 * (h % 10).toNat + u.toNat := by omega
  apply BitVec.eq_of_toNat_eq
  rw [hmod, bcdByte_digits _ (by omega), BitVec.toNat_ofInt, BitVec.toNat_ofNat]
  split <;> omega

/-- Decimal ADC of two-digit numbers (R171): the units are added, then the tens with the carry of the units. -/
theorem adcDecimal_bcdByte {x y : Nat} (hx : x < 100) (hy : y < 100) (c : Bool) :
    (adcDecimal (bcdByte x) (bcdByte y) c).a = bcdByte ((x + y + c.toNat) % 100) ∧
      (adcDecimal (bcdByte x) (bcdByte y) c).c = decide (100 ≤ x + y + c.toNat) := by
  have hc := c.toNat_le
  obtain ⟨l, hl⟩ : ∃ l, l = x % 10 + y % 10 + c.toNat := ⟨_, rfl⟩
  have hbytes : 16 * (x / 10) + 16 * (y / 10) + (16 * (l / 10) + l % 10) =
      16 * (x / 10 + y / 10 + l / 10) + l % 10 := by omega
  have hnumber : x + y + c.toNat = 10 * (x / 10 + y / 10 + l / 10) + l % 10 := by omega
  obtain ⟨hdigits, hcarry⟩ := adc_tens_adjust (h := x / 10 + y / 10 + l / 10) (u := l % 10) (by omega) (by omega)
  simp only [adcDecimal, bcdByte_units hx, bcdByte_units hy, bcdByte_tens hx, bcdByte_tens hy]
  rw [← hl, adc_units_adjust (by omega), hbytes, hnumber]
  exact ⟨hdigits, decide_eq_decide.mpr hcarry⟩

/-- Decimal SBC of two-digit numbers (R171): the units are subtracted, then the tens with the borrow of the units. -/
theorem sbcDecimal_bcdByte {x y : Nat} (hx : x < 100) (hy : y < 100) (c : Bool) :
    (sbcDecimal (bcdByte x) (bcdByte y) c).a = bcdByte (((x : Int) - (y : Int) - (1 - (c.toNat : Int))) % 100).toNat ∧
      (sbcDecimal (bcdByte x) (bcdByte y) c).c = decide (0 ≤ (x : Int) - (y : Int) - (1 - (c.toNat : Int))) := by
  have hc := c.toNat_le
  constructor
  · obtain ⟨l, hl⟩ : ∃ l : Int, l = ((x % 10 : Nat) : Int) - ((y % 10 : Nat) : Int) - (1 - c.toNat) := ⟨_, rfl⟩
    have hbytes : ((16 * (x / 10) : Nat) : Int) - ((16 * (y / 10) : Nat) : Int) + (16 * (l / 10) + l % 10) =
        16 * ((x / 10 : Int) - y / 10 + l / 10) + l % 10 := by omega
    have hnumber : (x : Int) - y - (1 - c.toNat) = 10 * ((x / 10 : Int) - y / 10 + l / 10) + l % 10 := by omega
    simp only [sbcDecimal, bcdByte_units hx, bcdByte_units hy, bcdByte_tens hx, bcdByte_tens hy]
    rw [← hl, sbc_units_adjust (by omega) (by omega), hbytes, hnumber]
    exact sbc_tens_adjust (by omega) (by omega) (by omega) (by omega)
  · -- C is the comparison of the two bytes, which are in the order of the numbers they write.
    simp only [sbcDecimal, sbcBinary, bcdByte_toNat hx, bcdByte_toNat hy]
    exact decide_eq_decide.mpr (by omega)

/-- Settles O11. -/
theorem decimalArithmeticIsRightOnDigits : Obligations.DecimalArithmeticIsRightOnDigits := by
  intro p q p' q' c hp hq hp' hq'
  have hx : 10 * p + q < 100 := by omega
  have hy : 10 * p' + q' < 100 := by omega
  obtain ⟨hadd, hcarry⟩ := adcDecimal_bcdByte hx hy c
  obtain ⟨hsub, hborrow⟩ := sbcDecimal_bcdByte hx hy c
  exact ⟨hadd, hcarry, hsub, hborrow⟩

end Sys2Proof.Machine
end

section
/-! Proofs of the statements of `43_shift_incdec.md`: the shifts and rotates of A and of memory (R190 to R193), INC and
DEC (R194, R195), and the steps of X and Y (R196 to R199). A cell with a memory operand stores one byte, sets P and goes
on to the next instruction: `exists_store_setP_frame` gives the frame of that, once. -/

namespace Sys2Proof.Machine

variable {s : State} {o : MemOperand}

/-! ### The end of an instruction that stores one byte -/

/-- One byte stored, P set, and PC past the instruction: the byte is read back where RAM lies, and no other byte,
register or hidden field changes (R64, R89). -/
theorem exists_store_setP_frame {r : Result} {k : Addr} {v : Byte} {p : Flags} {n : Nat}
    (h : r = .next (((s.write k v).setP p).advance n)) : ∃ t, r = .next t ∧
      { t with mem := s.mem } = { s with p := p, pc := s.pc + BitVec.ofNat 16 n } ∧
      (s.writable k = true → t.read k = v) ∧ ∀ l, l ≠ k → t.read l = s.read l :=
  ⟨_, h, rfl, State.read_write_same v, fun _ hl => State.read_write_other s v hl⟩

/-! ### Shifts and rotates (R190 to R193) -/

/-- In ROL the old C comes in as bit 0 (R192). -/
theorem rolByte_eq (v : Byte) (c : Bool) :
    rolByte v c = ((v <<< 1) ||| (if c then 0x01 else 0x00), v.getLsbD 7) := rfl

/-- In ROR the old C comes in as bit 7 (R193). -/
theorem rorByte_eq (v : Byte) (c : Bool) :
    rorByte v c = ((v >>> 1) ||| (if c then 0x80 else 0x00), v.getLsbD 0) := by
  cases c <;> rfl

section
variable {f : Byte → Bool → Byte × Bool} {r : Byte} {c : Bool}

/-- A shift or rotate of A, by the byte and the carry that it computes from A and C (R84, R190). -/
theorem opShiftAcc_eq (h : f s.a s.p.c = (r, c)) : opShiftAcc f s = .next { s with
    a := r
    p := { s.p with c := c, z := r == 0, n := r.getLsbD 7 }
    pc := s.pc + 1 } := by
  rw [opShiftAcc, h]
  exact next_setZN_advance ((s.setA r).setC c) r 1

/-- A shift or rotate in memory, by the byte and the carry that it computes from the operand byte and C (R189, R190). -/
theorem opShiftMem_frame (h : f (s.read (o.ea s)) s.p.c = (r, c)) : ∃ t, opShiftMem f o s = .next t ∧
    { t with mem := s.mem } = { s with
      p := { s.p with c := c, z := r == 0, n := r.getLsbD 7 }
      pc := s.pc + BitVec.ofNat 16 o.length } ∧
    (s.writable (o.ea s) = true → t.read (o.ea s) = r) ∧ ∀ k, k ≠ o.ea s → t.read k = s.read k := by
  refine exists_store_setP_frame ?_
  rw [opShiftMem, h, State.setZN_eq]
  rfl

end

/-- Settles O13: ASL and LSR are one operation of A and one of memory, whose result and carry do not use the old C. -/
theorem shiftsMoveOneBitIntoCarry : Obligations.ShiftsMoveOneBitIntoCarry := by
  refine ⟨fun s => ?_, fun i o s hi ho => ?_, fun s => ?_, fun i o s hi ho => ?_, ?_, ?_⟩
  · exact opShiftAcc_eq (f := aslByte) rfl
  · rw [exec_documented s hi ho, length_mem ho]
    exact opShiftMem_frame (f := aslByte) rfl
  · exact opShiftAcc_eq (f := lsrByte) rfl
  · rw [exec_documented s hi ho, length_mem ho]
    exact opShiftMem_frame (f := lsrByte) rfl
  all_goals exact (encodings_eq_rows _).trans rfl

/-- Settles O14: ROL and ROR are the same two operations, with the old C in the result. -/
theorem rotatesTurnThroughCarry : Obligations.RotatesTurnThroughCarry := by
  refine ⟨fun s => ?_, fun i o s hi ho => ?_, fun s => ?_, fun i o s hi ho => ?_, ?_, ?_⟩
  · exact opShiftAcc_eq (rolByte_eq s.a s.p.c)
  · rw [exec_documented s hi ho, length_mem ho]
    exact opShiftMem_frame (rolByte_eq _ s.p.c)
  · exact opShiftAcc_eq (rorByte_eq s.a s.p.c)
  · rw [exec_documented s hi ho, length_mem ho]
    exact opShiftMem_frame (rorByte_eq _ s.p.c)
  all_goals exact (encodings_eq_rows _).trans rfl

/-! ### Increments and decrements (R194 to R199) -/

/-- INC or DEC of a memory byte: the byte is stepped where RAM lies, and Z and N are of the stepped byte (R189, R194,
R195). -/
theorem opStepMem_frame (f : Byte → Byte) (o : MemOperand) (s : State) : ∃ t, opStepMem f o s = .next t ∧
    { t with mem := s.mem } = { s with
      p := { s.p with z := f (s.read (o.ea s)) == 0, n := (f (s.read (o.ea s))).getLsbD 7 }
      pc := s.pc + BitVec.ofNat 16 o.length } ∧
    (s.writable (o.ea s) = true → t.read (o.ea s) = f (s.read (o.ea s))) ∧
    ∀ k, k ≠ o.ea s → t.read k = s.read k := by
  refine exists_store_setP_frame ?_
  rw [opStepMem, State.setZN_eq]
  rfl

/-- Settles O15: INC and DEC are one step of a memory byte; the others step X or Y, then set Z and N from it. -/
theorem incrementsAndDecrementsWrap : Obligations.IncrementsAndDecrementsWrap := by
  refine ⟨fun i o s hi ho => ?_, fun i o s hi ho => ?_, fun s => ⟨?_, ?_, ?_, ?_⟩, ?_, ?_, ?_, ?_, ?_, ?_⟩
  · rw [exec_documented s hi ho, length_mem ho]
    exact opStepMem_frame (· + 1) o s
  · rw [exec_documented s hi ho, length_mem ho]
    exact opStepMem_frame (· - 1) o s
  · exact next_setZN_advance (s.setX (s.x + 1)) (s.x + 1) 1
  · exact next_setZN_advance (s.setY (s.y + 1)) (s.y + 1) 1
  · exact next_setZN_advance (s.setX (s.x - 1)) (s.x - 1) 1
  · exact next_setZN_advance (s.setY (s.y - 1)) (s.y - 1) 1
  all_goals exact (encodings_eq_rows _).trans rfl

end Sys2Proof.Machine
end

section
/-! Proofs of the statements of `44_branch_jump.md`: the branches (R220 to R228), the two jumps (R229, R90), the call
and the return (R230, R231). JSR and RTS are `push16` and `drop16`: the rules of the two words of the stack are proved
once and give both the frames and the round trip. -/

namespace Sys2Proof.Machine

variable {s : State}

/-! ### The branches (R220 to R228) -/

/-- A branch whose flag test comes to the condition `c` writes PC by it, and nothing else (R220). -/
theorem exec_branch {i : Instr} {b : Byte} {c : Prop} [Decidable c] (ho : i.operand = .relative b)
    (hc : branchTaken i.mnemonic s.p = true ↔ c) :
    exec i s = .next { s with pc := if c then s.pc + 2 + b.signExtend 16 else s.pc + 2 } := by
  rw [exec_relative s ho, opBranch, if_congr hc rfl rfl]
  rfl

/-- Settles O16: a branch tests its flag for 1 as it is, for 0 by its negation. -/
theorem branchesMoveOnlyPC : Obligations.BranchesMoveOnlyPC := by
  refine ⟨fun b s => ⟨?bcc, ?bcs, ?beq, ?bmi, ?bne, ?bpl, ?bvc, ?bvs⟩, ?_, ?_, ?_, ?_, ?_, ?_, ?_, ?_⟩
  case bcc | bne | bpl | bvc => exact exec_branch rfl (iff_of_eq (Bool.not_eq_true' _))
  case bcs | beq | bmi | bvs => exact exec_branch rfl Iff.rfl
  all_goals exact (encodings_eq_rows _).trans rfl

/-! ### The jumps (R229, R90) -/

/-- The byte after an address lies in the same page, unless the address is the last of its page. -/
theorem add_one_eq_join {a : Addr} (h : lo a ≠ 0xFF) : a + 1 = join (hi a) (lo a + 1) := by
  have hlo : (lo a).toNat ≠ 255 := fun e => h (BitVec.eq_of_toNat_eq e)
  apply BitVec.eq_of_toNat_eq
  rw [lo_toNat] at hlo
  simp only [join_toNat, hi_toNat, lo_toNat, BitVec.toNat_add, BitVec.ofNat_eq_ofNat, BitVec.toNat_ofNat]
  omega

/-- At the end of a page the pointer's high byte comes from the start of the page where the parameter says so (R90). -/
theorem indHighAddr_eq (k : Params) (a : Addr) :
    indHighAddr k a = if lo a = 0xFF ∧ k.jmpIndPageWrap = true then join (hi a) 0x00 else a + 1 := by
  rw [indHighAddr, ite_and]
  split
  · next h =>
    rw [h]
    rfl
  · rfl

theorem indHighAddr_of_not_wrap {k : Params} (h : k.jmpIndPageWrap = false) (a : Addr) : indHighAddr k a = a + 1 := by
  rw [indHighAddr_eq, if_neg (by simp [h])]

/-- With the wrap the high byte comes from the pointer's page whatever its low byte is (R90). -/
theorem indHighAddr_of_wrap {k : Params} (h : k.jmpIndPageWrap = true) (a : Addr) :
    indHighAddr k a = join (hi a) (lo a + 1) := by
  rw [indHighAddr, if_pos h]
  split
  · rfl
  · next hlo => exact add_one_eq_join hlo

/-- Settles O17: both forms set PC alone, the indirect one to the word that `indHighAddr` completes. -/
theorem jumpsSetPC : Obligations.JumpsSetPC := by
  refine ⟨fun a s => ⟨rfl, ?_⟩, fun a s => ⟨fun h => ?_, fun h => ?_⟩, (encodings_eq_rows _).trans rfl⟩
  · rw [← indHighAddr_eq]
    rfl
  · rw [State.readInd16, indHighAddr_of_not_wrap h]
  · rw [State.readInd16, indHighAddr_of_wrap h]

/-! ### Call and return (R230, R231) -/

/-- A 16-bit push changes no byte but the two on the stack (R59). -/
theorem State.read_push16_other (s : State) (w : Addr) {k : Addr} (h0 : k ≠ stackAddr s.sp)
    (h1 : k ≠ stackAddr (s.sp - 1)) : (s.push16 w).read k = s.read k :=
  ((s.push (hi w)).read_push_other (lo w) h1).trans (s.read_push_other (hi w) h0)

/-- JSR, with S lowered in one step (R230). -/
theorem exec_jsrAbs (a : Addr) (s : State) : exec (.jsrAbs a) s =
    .next { s with sp := s.sp - 2, pc := a, mem := (s.push16 (s.pc + 2)).mem } := by
  have hsp : s.sp - 2 = s.sp - 1 - 1 := (BitVec.sub_sub s.sp 1 1).symm
  rw [hsp]
  rfl

/-- RTS, with S raised in one step (R231). -/
theorem exec_rts (s : State) : exec .rts s = .next { s with
    sp := s.sp + 2
    pc := join (s.read (join 0x01 (s.sp + 2))) (s.read (join 0x01 (s.sp + 1))) + 1 } := by
  have hsp : s.sp + 2 = s.sp + 1 + 1 := (BitVec.add_assoc s.sp 1 1).symm
  calc exec .rts s = .next (s.drop16.setPc (s.top16 + 1)) := rfl
    _ = _ := by
      rw [State.top16_eq, hsp]
      rfl

/-- Settles O18: JSR is one 16-bit push, of which RTS reads the two bytes. -/
theorem callAndReturnUseTheStack : Obligations.CallAndReturnUseTheStack := by
  refine ⟨fun a s => ⟨_, exec_jsrAbs a s, rfl, ?_, ?_, ?_⟩, exec_rts, ?_, ?_⟩
  · exact State.read_push16_high (s.pc + 2)
  · exact State.read_push16_low (s.pc + 2)
  · exact fun k h0 h1 => s.read_push16_other (s.pc + 2) h0 h1
  all_goals exact (encodings_eq_rows _).trans rfl

/-! ### A return right after the call -/

/-- A 16-bit pull after a 16-bit push gives the word pushed (R59, R60). -/
theorem State.top16_push16 (w : Addr) (h0 : s.writable (stackAddr s.sp) = true)
    (h1 : s.writable (stackAddr (s.sp - 1)) = true) : (s.push16 w).top16 = w := by
  rw [State.top16_eq, State.push16_sp, BitVec.sub_add_cancel, BitVec.sub_add_cancel, State.read_push16_high w h0,
    State.read_push16_low w h1, join_hi_lo]

/-- Of a 16-bit push and a 16-bit pull only the bytes stored remain (R59, R60). -/
theorem State.drop16_push16 (s : State) (w : Addr) : (s.push16 w).drop16 = { s with mem := (s.push16 w).mem } :=
  calc (s.push16 w).drop16
      = { s with sp := s.sp - 1 - 1 + 1 + 1, mem := (s.push16 w).mem } := rfl
    _ = { s with mem := (s.push16 w).mem } := by rw [BitVec.sub_add_cancel, BitVec.sub_add_cancel]

/-- RTS after JSR: the bytes stored and PC three bytes on remain of the two (R230, R231). -/
theorem exec_jsrAbs_rts (a : Addr) (h0 : s.writable (stackAddr s.sp) = true)
    (h1 : s.writable (stackAddr (s.sp - 1)) = true) : andThen (exec (.jsrAbs a) s) (exec .rts) =
    .next { s with pc := s.pc + 3, mem := (s.push16 (s.pc + 2)).mem } :=
  calc andThen (exec (.jsrAbs a) s) (exec .rts)
      = .next ((s.push16 (s.pc + 2)).drop16.setPc ((s.push16 (s.pc + 2)).top16 + 1)) := rfl
    _ = .next { s with pc := s.pc + 3, mem := (s.push16 (s.pc + 2)).mem } := by
      rw [State.top16_push16 _ h0 h1, State.drop16_push16, BitVec.add_assoc]
      rfl

/-- Settles O55: the word that JSR pushed is the one that RTS pulls, and one more is the instruction after the JSR. -/
theorem subroutineReturnsAfterTheCall : Obligations.SubroutineReturnsAfterTheCall :=
  fun a s h0 h1 => ⟨_, exec_jsrAbs_rts a h0 h1, rfl, fun _ hk0 hk1 => s.read_push16_other (s.pc + 2) hk0 hk1⟩

end Sys2Proof.Machine
end

section
/-! Proofs of the statements of `45_flags_system.md`: the flag instructions (R250 to R256), the 28 NOP cells (R257,
R272, R273), BRK (R260, R331) and RTI (R261). The 27 extra NOP cells are one operation behind the policy gate; BRK and
RTI are the entry and the return of the interrupts, with S moved by three in one step. -/

namespace Sys2Proof.Machine

/-! ### The flag instructions (R250 to R256) -/

/-- Settles O19: each of the seven sets one flag of P, and the poll after CLI and SEI reads I of the state before. -/
theorem flagInstructionsWriteOneFlag : Obligations.FlagInstructionsWriteOneFlag := by
  refine ⟨fun s => ⟨rfl, rfl, rfl, rfl, rfl, rfl, rfl⟩, fun s t => ⟨rfl, rfl⟩, ?_, ?_, ?_, ?_, ?_, ?_, ?_⟩
  all_goals exact (encodings_eq_rows _).trans rfl

/-! ### The NOP cells (R257, R272, R273) -/

/-- An extra NOP cell, with an operand or without, goes on to the next instruction behind the policy gate (R270). -/
theorem exec_extraNop {i : Instr} (s : State) (hi : i.mnemonic = .NOP) (hn : i ≠ .nop) :
    exec i s = undocumented s .same (.next (s.advance i.length)) := by
  cases i <;> cases hi
  case nop => exact absurd rfl hn
  all_goals rfl

/-- Settles O20: the documented cell has no gate, and that of the others is closed under `refuse_all` alone. -/
theorem nopsOnlyAdvancePC : Obligations.NopsOnlyAdvancePC := by
  refine ⟨fun i s hi hp => ?_, (encodings_eq_rows _).trans rfl⟩
  by_cases hn : i = .nop
  · subst hn
    rfl
  · have hopen : undocAllowed s.params.undocPolicy .same = true := (undocAllowed_iff (by decide)).mpr (hp hn)
    rw [exec_extraNop s hi hn, undocumented_open hopen]
    rfl

/-! ### BRK and RTI (R260, R261) -/

/-- The registers after BRK, with S lowered in one step; the pushes lie in page one and so leave the word at $FFFE
alone (R260, R338). -/
theorem State.enter_brk_registers (s : State) :
    { s.enter (s.pc + 2) true Config.vecIrq with mem := s.mem } =
      { s with sp := s.sp - 3, p := { s.p with i := true }, pc := join (s.read 0xFFFF) (s.read 0xFFFE) } := by
  have hsp : s.sp - 3 = s.sp - 1 - 1 - 1 := by bv_omega
  have hpc : (s.pushFrame (s.pc + 2) true).read16 Config.vecIrq = join (s.read 0xFFFF) (s.read 0xFFFE) :=
    State.read16_pushFrame s _ true (by decide) (by decide)
  rw [State.enter_eq, hsp, hpc]

/-- RTI, with S raised in one step (R261). -/
theorem exec_rti (s : State) : exec .rti s = .next { s with
    sp := s.sp + 3
    p := Flags.ofByte (s.read (join 0x01 (s.sp + 1)))
    pc := join (s.read (join 0x01 (s.sp + 3))) (s.read (join 0x01 (s.sp + 2))) } := by
  have h2 : s.sp + 2 = s.sp + 1 + 1 := (BitVec.add_assoc s.sp 1 1).symm
  have h3 : s.sp + 3 = s.sp + 1 + 1 + 1 := by bv_omega
  calc exec .rti s = .next s.returnFromInterrupt := rfl
    _ = _ := by
      rw [State.returnFromInterrupt_eq, h2, h3]
      rfl

/-- Settles O21: memory after BRK is that of the stack frame, whose three bytes are read back as they were pushed. -/
theorem brkEntersTheHandler : Obligations.BrkEntersTheHandler := by
  refine ⟨fun s => ⟨_, rfl, s.enter_brk_registers, ?_⟩, fun _ => rfl, (encodings_eq_rows _).trans rfl⟩
  have hsp : s.sp - 2 = s.sp - 1 - 1 := (BitVec.sub_sub s.sp 1 1).symm
  simp only [State.read_enter, hsp]
  exact ⟨State.read_pushFrame_high _ true, State.read_pushFrame_low _ true, State.read_pushFrame_status _ true,
    fun _ h0 h1 h2 => State.read_of_pushFrame _ true h0 h1 h2⟩

/-- Settles O22: the flags restored are those of SetP, and the poll after RTI reads the I that it restored. -/
theorem rtiRestoresFlagsAndPC : Obligations.RtiRestoresFlagsAndPC :=
  ⟨exec_rti, fun _ _ => rfl, (encodings_eq_rows _).trans rfl⟩

end Sys2Proof.Machine
end

section
/-! Proofs of the statements of `46_undocumented.md`: the policy (R270), STP (R271), the read-modify-write cells that go
on to A (R275 to R278, R281, R282), SAX and LAX (R279, R280), the immediate combinations and LAS (R283 to R287), the
magic cells (R288, R289) and the unstable stores (R290 to R293). `exec_undocumented` opens the gate of a cell with an
operand once; behind it each family is one operation, whose effect and frame are said once. -/

namespace Sys2Proof.Machine

variable {i : Instr} {m : Mnemonic} {o : MemOperand} {s : State}

/-! ### The policy table (R270) -/

/-- JMP and JSR stand in no class of the policy table. -/
theorem memClass_jump (hm : m = .JMP ∨ m = .JSR) (o : MemOperand) (op : Byte) : memClass m o op = none := by
  rcases hm with rfl | rfl <;> rfl

/-- A cell with an operand whose class the policy allows has the meaning of its mnemonic (R270). -/
theorem exec_undocumented {cl : UndocClass} (hi : i.mnemonic = m) (ho : i.operand = .mem o)
    (hc : memClass m o i.opcode = some cl) (ha : undocAllowed s.params.undocPolicy cl = true) :
    exec i s = memMeaning m o s := by
  subst hi
  have hjump : ¬(i.mnemonic = .JMP ∨ i.mnemonic = .JSR) := fun h => by simp [memClass_jump h] at hc
  obtain ⟨hj, hr⟩ := not_or.mp hjump
  rw [exec_mem s ho hj hr, hc, behindGate, undocumented_open ha]

/-- The stable cells have their meaning unless the policy is `refuse_all`. -/
theorem exec_stable (hi : i.mnemonic = m) (ho : i.operand = .mem o) (hp : s.params.undocPolicy ≠ .refuseAll)
    (hc : memClass m o i.opcode = some .stable := by rfl) : exec i s = memMeaning m o s :=
  exec_undocumented hi ho hc ((undocAllowed_iff (by decide)).mpr hp)

/-- The unstable cells have their meaning under `all_with_magic`. -/
theorem exec_unstable (hi : i.mnemonic = m) (ho : i.operand = .mem o) (hp : s.params.undocPolicy = .allWithMagic)
    (hc : memClass m o i.opcode = some .unstable := by rfl) : exec i s = memMeaning m o s :=
  exec_undocumented hi ho hc (undocAllowed_unstable.mpr hp)

/-- The class of a cell in the policy table, none for a documented cell (R270). -/
def cellClass (i : Instr) : Option UndocClass :=
  match i.operand with
  | .mem o => memClass i.mnemonic o i.opcode
  | .implicit => if i.mnemonic = .STP then some .halt else if i.mnemonic = .NOP ∧ i ≠ .nop then some .same else none
  | .accumulator | .relative _ | .indirect _ => none

theorem advanceResult_adc_ne_undocumentedCell (n : Nat) (b : Byte) (s : State) :
    advanceResult n (adc b s) ≠ .refused .undocumentedCell := by
  rw [adc]
  cases adcSum s.params.decimalMode s.p.d s.a b s.p.c <;> simp [State.writeSum, advanceResult]

theorem advanceResult_sbc_ne_undocumentedCell (n : Nat) (b : Byte) (s : State) :
    advanceResult n (sbc b s) ≠ .refused .undocumentedCell := by
  rw [sbc]
  cases sbcSum s.params.decimalMode s.p.d s.a b s.p.c <;> simp [State.writeSum, advanceResult]

theorem opArr_ne_undocumentedCell (b : Byte) (s : State) : opArr b s ≠ .refused .undocumentedCell := by
  unfold opArr
  split <;> simp

theorem opUnstableStore_ne_undocumentedCell (v : Byte) (o : MemOperand) (s t : State) :
    opUnstableStore v o s t ≠ .refused .undocumentedCell := by
  unfold opUnstableStore
  split <;> simp

/-- The refusal of R270 comes from the gate alone: no operation behind it answers it. -/
theorem memMeaning_ne_undocumentedCell (m : Mnemonic) (o : MemOperand) (s : State) :
    memMeaning m o s ≠ .refused .undocumentedCell := by
  cases m
  case ADC | RRA => exact advanceResult_adc_ne_undocumentedCell _ _ _
  case SBC | ISC => exact advanceResult_sbc_ne_undocumentedCell _ _ _
  case ARR => exact opArr_ne_undocumentedCell _ _
  case AHX | TAS | SHY | SHX => exact opUnstableStore_ne_undocumentedCell _ _ _ _
  case LAX => cases o <;> intro h <;> cases h
  all_goals
    intro h
    cases h

/-- JMP and JSR, which `memMeaning` leaves out, complete. -/
theorem exec_jump_ne_undocumentedCell (hi : i.mnemonic = .JMP ∨ i.mnemonic = .JSR) (s : State) :
    exec i s ≠ .refused .undocumentedCell := by
  intro h
  rcases hi with e | e <;> cases i <;> cases e <;> cases h

/-- Every cell is a meaning without the refusal of R270, behind the gate of the cell's class. -/
theorem exists_meaning_behindGate (i : Instr) (s : State) :
    ∃ r, r ≠ .refused .undocumentedCell ∧ exec i s = behindGate (cellClass i) s r := by
  cases ho : i.operand with
  | mem o =>
    have hc : cellClass i = memClass i.mnemonic o i.opcode := by rw [cellClass, ho]
    by_cases hj : i.mnemonic = .JMP ∨ i.mnemonic = .JSR
    · exact ⟨exec i s, exec_jump_ne_undocumentedCell hj s, by rw [hc, memClass_jump hj, behindGate]⟩
    · obtain ⟨hj, hr⟩ := not_or.mp hj
      exact ⟨_, memMeaning_ne_undocumentedCell i.mnemonic o s, hc ▸ exec_mem s ho hj hr⟩
  | implicit =>
    by_cases hs : i.mnemonic = .STP
    · exact ⟨.next s.stop, by simp, by simp [cellClass, ho, hs, exec_stp s hs, behindGate]⟩
    · by_cases hn : i.mnemonic = .NOP ∧ i ≠ .nop
      · exact ⟨.next (s.advance i.length), by simp, by simp [cellClass, ho, hn, exec_extraNop s hn.1 hn.2, behindGate]⟩
      · refine ⟨exec i s, ?_, by simp only [cellClass, ho, if_neg hs, if_neg hn, behindGate]⟩
        -- `ho`, `hs` and `hn` leave the 25 documented cells of implicit mode.
        cases i <;> try contradiction
        all_goals
          intro h
          cases h
  | accumulator | relative | indirect =>
    refine ⟨exec i s, ?_, by rw [cellClass, ho, behindGate]⟩
    cases i <;> cases ho <;> intro h <;> cases h

/-- A cell is refused by the policy exactly when the policy withdraws its class (R270). -/
theorem exec_eq_undocumentedCell_iff : exec i s = .refused .undocumentedCell ↔
    ∃ cl, cellClass i = some cl ∧ undocAllowed s.params.undocPolicy cl = false := by
  obtain ⟨r, hr, e⟩ := exists_meaning_behindGate i s
  rw [e]
  cases cellClass i with
  | none => simp [behindGate, hr]
  | some cl => cases ha : undocAllowed s.params.undocPolicy cl <;> simp [behindGate, undocumented, ha, hr]

/-- The withdrawn entries of the policy table (R270). -/
theorem undocAllowed_eq_false_iff {p : UndocPolicy} {cl : UndocClass} :
    undocAllowed p cl = false ↔ p = .refuseAll ∨ p = .stableOnly ∧ cl = .unstable := by
  cases p <;> cases cl <;> decide

/-- The 7 unstable cells (R270, R288 to R293). -/
theorem cellClass_eq_unstable_iff (i : Instr) : cellClass i = some .unstable ↔
    i.mnemonic ∈ [.XAA, .AHX, .TAS, .SHY, .SHX] ∨ i.opcode = 0xAB :=
  decide_eq_decide.mp (by cases i <;> rfl)

/-- The 105 undocumented cells (R270). -/
theorem cellClass_isSome_iff (i : Instr) : (∃ cl, cellClass i = some cl) ↔
    i.mnemonic ∈ [.STP, .SLO, .RLA, .SRE, .RRA, .SAX, .LAX, .DCP, .ISC, .ANC, .ALR, .ARR, .XAA, .AXS, .AHX, .TAS,
      .SHY, .SHX, .LAS] ∨ (i.mnemonic = .NOP ∧ i.opcode ≠ 0xEA) ∨ i.opcode = 0xEB := by
  rw [← Option.isSome_iff_exists]
  exact decide_eq_decide.mp (by cases i <;> rfl)

/-- Settles O59: the policy withdraws classes, and the cells of a class are read off the matrix. -/
theorem undocumentedPolicyTable : Obligations.UndocumentedPolicyTable := by
  refine ⟨fun i s => ?_, fun s cl r => ⟨fun h => ?_, fun h hc => ?_, fun h hc => ?_, fun h => ?_⟩, rfl⟩
  · rw [exec_eq_undocumentedCell_iff, ← cellClass_isSome_iff, ← cellClass_eq_unstable_iff]
    simp only [undocAllowed_eq_false_iff]
    constructor
    · rintro ⟨cl, hcl, hp | ⟨hp, rfl⟩⟩
      · exact .inl ⟨hp, cl, hcl⟩
      · exact .inr ⟨hp, hcl⟩
    · rintro (⟨hp, cl, hcl⟩ | ⟨hp, hcl⟩)
      · exact ⟨cl, hcl, .inl hp⟩
      · exact ⟨_, hcl, .inr ⟨hp, rfl⟩⟩
  · exact undocumented_closed (undocAllowed_eq_false_iff.mpr (.inl h)) r
  · exact undocumented_closed (undocAllowed_eq_false_iff.mpr (.inr ⟨h, hc⟩)) r
  · exact undocumented_open ((undocAllowed_iff hc).mpr (by simp [h])) r
  · exact undocumented_open (by rw [h, undocAllowed]) r

/-! ### STP (R271) -/

/-- A stopped machine without a reset request is stuck, whatever else is pending or arrives (R271, R333). -/
theorem step_of_stopped (hs : s.stopped = true) (hr : s.resetRequested = false) : step s = .fault .stuck := by
  have hb : boundaryEvent s.resetRequested s.takeInput = .stuck := by
    rw [boundaryEvent, hr, State.takeInput_stopped, hs]
    rfl
  rw [step, hb]

/-- A reset request comes before everything else, a stop included (R333, R370). -/
theorem step_of_resetRequested (hr : s.resetRequested = true) : step s = .next s.takeInput.resetStep := by
  have hb : boundaryEvent s.resetRequested s.takeInput = .reset := by
    rw [boundaryEvent, hr]
    rfl
  rw [step, hb]

/-- Settles O23: the 12 cells are one update behind the gate, and a step looks for a reset request first, then for a
stop. -/
theorem stpStopsTheMachineUntilReset : Obligations.StpStopsTheMachineUntilReset := by
  refine ⟨fun i s hi hp => ?_, fun s => step_of_stopped, fun s hr => ⟨_, step_of_resetRequested hr, rfl⟩,
    (encodings_eq_rows _).trans rfl⟩
  rw [exec_stp s hi, undocumented_open ((undocAllowed_iff (by decide)).mpr hp)]
  rfl

/-! ### The cells that store one byte and write A, S or the flags (R275 to R278, R282, R290 to R293) -/

/-- One byte stored, A, S and P set, and PC past the instruction: the byte is read back where RAM lies, and no other
byte, register or hidden field changes (R64, R89). -/
theorem exists_store_setRegisters_frame {r : Result} {k : Addr} {v a sp : Byte} {p : Flags} {n : Nat}
    (h : r = .next (((((s.write k v).setA a).setSp sp).setP p).advance n)) : ∃ t, r = .next t ∧
      { t with mem := s.mem } = { s with a := a, sp := sp, p := p, pc := s.pc + BitVec.ofNat 16 n } ∧
      (s.writable k = true → t.read k = v) ∧ ∀ l, l ≠ k → t.read l = s.read l :=
  ⟨_, h, rfl, State.read_write_same v, fun _ hl => State.read_write_other s v hl⟩

/-- A shift in memory combined with A, by the byte and the carry that the shift computes from the operand byte and C
(R275 to R277). -/
theorem opShiftCombine_frame {f : Byte → Bool → Byte × Bool} (g : Byte → Byte → Byte) {r : Byte} {c : Bool}
    (h : f (s.read (o.ea s)) s.p.c = (r, c)) : ∃ t, opShiftCombine f g o s = .next t ∧
    { t with mem := s.mem } = { s with
      a := g s.a r
      p := { s.p with c := c, z := g s.a r == 0, n := (g s.a r).getLsbD 7 }
      pc := s.pc + BitVec.ofNat 16 o.length } ∧
    (s.writable (o.ea s) = true → t.read (o.ea s) = r) ∧ ∀ k, k ≠ o.ea s → t.read k = s.read k := by
  refine exists_store_setRegisters_frame ?_
  rw [opShiftCombine, h, writeA_eq]
  rfl

/-- Settles O24: the three mnemonics are one operation, with the shift and the combination of each. -/
theorem shiftAndCombineCells : Obligations.ShiftAndCombineCells := by
  refine ⟨fun i o s hi ho hp => ?_, fun i o s hi ho hp => ?_, fun i o s hi ho hp => ?_, ?_, ?_, ?_⟩
  · rw [exec_stable hi ho hp, length_mem ho]
    exact opShiftCombine_frame (f := aslByte) (· ||| ·) rfl
  · rw [exec_stable hi ho hp, length_mem ho]
    exact opShiftCombine_frame (· &&& ·) (rolByte_eq _ s.p.c)
  · rw [exec_stable hi ho hp, length_mem ho]
    exact opShiftCombine_frame (f := lsrByte) (· ^^^ ·) rfl
  all_goals exact (encodings_eq_rows _).trans rfl

/-- RRA, by the byte and the carry of the rotate and the sum of A with them (R278). -/
theorem opRra_frame {r : Byte} {c : Bool} {q : Sum} (h : rorByte (s.read (o.ea s)) s.p.c = (r, c))
    (hq : adcSum s.params.decimalMode s.p.d s.a r c = some q) : ∃ t, opRra o s = .next t ∧
    { t with mem := s.mem } = { s with
      a := q.a
      p := { s.p with c := q.c, z := q.z, v := q.v, n := q.n }
      pc := s.pc + BitVec.ofNat 16 o.length } ∧
    (s.writable (o.ea s) = true → t.read (o.ea s) = r) ∧ ∀ k, k ≠ o.ea s → t.read k = s.read k := by
  refine exists_store_setRegisters_frame (opRra_next.mpr ⟨q, ?_, ?_⟩)
  · rw [h]
    exact hq
  · rw [h]
    rfl

/-- ISC, by the difference of A and the incremented byte (R282). -/
theorem opIsc_frame {q : Sum} (hq : sbcSum s.params.decimalMode s.p.d s.a (s.read (o.ea s) + 1) s.p.c = some q) :
    ∃ t, opIsc o s = .next t ∧
    { t with mem := s.mem } = { s with
      a := q.a
      p := { s.p with c := q.c, z := q.z, v := q.v, n := q.n }
      pc := s.pc + BitVec.ofNat 16 o.length } ∧
    (s.writable (o.ea s) = true → t.read (o.ea s) = s.read (o.ea s) + 1) ∧ ∀ k, k ≠ o.ea s → t.read k = s.read k :=
  exists_store_setRegisters_frame (opIsc_next.mpr ⟨q, hq, rfl⟩)

/-- The store of RRA does not matter to its ADC, which refuses as ADC does (R171). -/
theorem opRra_refused (hm : s.params.decimalMode = .refuse) (hd : s.p.d = true) (o : MemOperand) :
    opRra o s = .refused .decimalModeRefused :=
  congrArg (advanceResult o.length) (adc_refused (s := (s.write (o.ea s) (rorByte (s.read (o.ea s)) s.p.c).1).setC
    (rorByte (s.read (o.ea s)) s.p.c).2) hm hd _)

theorem opIsc_refused (hm : s.params.decimalMode = .refuse) (hd : s.p.d = true) (o : MemOperand) :
    opIsc o s = .refused .decimalModeRefused :=
  congrArg (advanceResult o.length) (sbc_refused (s := s.write (o.ea s) (s.read (o.ea s) + 1)) hm hd _)

/-- Every cell of RRA and ISC has a memory operand. -/
theorem exists_mem_operand_of_rra_or_isc (hi : i.mnemonic = .RRA ∨ i.mnemonic = .ISC) : ∃ o, i.operand = .mem o := by
  rcases hi with e | e <;> cases i <;> cases e <;> exact ⟨_, rfl⟩

/-- Settles O25: with a sum both operations complete, and without one both refuse. -/
theorem rotateThenAddAndIncrementThenSubtract : Obligations.RotateThenAddAndIncrementThenSubtract := by
  refine ⟨fun i o s hi ho hp h => ?_, fun i o s hi ho hp h => ?_, fun i s hi hp hd hm => ?_, ?_, ?_⟩
  · obtain ⟨q, hq⟩ := exists_adcSum h s.a (rorByte (s.read (o.ea s)) s.p.c).1 ((s.read (o.ea s)).getLsbD 0)
    rw [rorByte_eq] at hq
    obtain ⟨t, ht⟩ := opRra_frame (rorByte_eq _ s.p.c) hq
    rw [exec_stable hi ho hp, length_mem ho]
    exact ⟨q, t, hq, ht⟩
  · obtain ⟨q, hq⟩ := exists_sbcSum h s.a (s.read (o.ea s) + 1) s.p.c
    obtain ⟨t, ht⟩ := opIsc_frame hq
    rw [exec_stable hi ho hp, length_mem ho]
    exact ⟨q, t, hq, ht⟩
  · obtain ⟨o, ho⟩ := exists_mem_operand_of_rra_or_isc hi
    rcases hi with hi | hi
    · exact (exec_stable hi ho hp).trans (opRra_refused hm hd o)
    · exact (exec_stable hi ho hp).trans (opIsc_refused hm hd o)
  all_goals exact (encodings_eq_rows _).trans rfl

/-- An unstable store, with the S of the state that it writes into: in one page it stores the byte AND the high byte of
the base plus 1, and a page crossing is refused (R290 to R293). -/
theorem opUnstableStore_cases (v sp : Byte) (o : MemOperand) (s : State) :
    (hi (o.base s) = hi (o.ea s) → ∃ t, opUnstableStore v o s (s.setSp sp) = .next t ∧
      { t with mem := s.mem } = { s with sp := sp, pc := s.pc + BitVec.ofNat 16 o.length } ∧
      (s.writable (o.ea s) = true → t.read (o.ea s) = v &&& (hi (o.base s) + 1)) ∧
      ∀ k, k ≠ o.ea s → t.read k = s.read k) ∧
    (hi (o.base s) ≠ hi (o.ea s) →
      opUnstableStore v o s (s.setSp sp) = .refused .unstableStoreCrossesPage) := by
  refine ⟨fun h => ?_, fun h => ?_⟩
  · have hc : o.crossed s = false := by rw [Bool.eq_false_iff, Ne, crossed_iff, not_not, h]
    exact exists_store_setRegisters_frame (opUnstableStore_next.mpr ⟨hc, rfl⟩)
  · rw [opUnstableStore, if_pos ((crossed_iff o s).mpr h)]

/-- Settles O30: the five cells are one store, of which TAS alone writes S. -/
theorem unstableStoresStayInTheirPage : Obligations.UnstableStoresStayInTheirPage := by
  refine ⟨fun b s hp => ?_, fun a s hp => ?_, fun a s hp => ?_, fun a s hp => ?_, fun a s hp => ?_, ?_, ?_, ?_, ?_⟩
  · rw [exec_unstable rfl rfl hp]
    exact opUnstableStore_cases (s.a &&& s.x) s.sp (.indY b) s
  · rw [exec_unstable rfl rfl hp]
    exact opUnstableStore_cases (s.a &&& s.x) s.sp (.absY a) s
  · rw [exec_unstable rfl rfl hp]
    exact opUnstableStore_cases (s.a &&& s.x) (s.a &&& s.x) (.absY a) s
  · rw [exec_unstable rfl rfl hp]
    exact opUnstableStore_cases s.y s.sp (.absX a) s
  · rw [exec_unstable rfl rfl hp]
    exact opUnstableStore_cases s.x s.sp (.absY a) s
  all_goals exact (encodings_eq_rows _).trans rfl

/-! ### DCP, SAX and LAX (R279 to R281) -/

/-- DCP: the byte is decremented where RAM lies, and the flags are those of comparing A with it (R281). -/
theorem opDcp_frame (o : MemOperand) (s : State) : ∃ t, opDcp o s = .next t ∧
    { t with mem := s.mem } = { s with
      p := { s.p with
        c := decide ((s.read (o.ea s) - 1).toNat ≤ s.a.toNat)
        z := s.a == s.read (o.ea s) - 1
        n := (s.a - (s.read (o.ea s) - 1)).getLsbD 7 }
      pc := s.pc + BitVec.ofNat 16 o.length } ∧
    (s.writable (o.ea s) = true → t.read (o.ea s) = s.read (o.ea s) - 1) ∧ ∀ k, k ≠ o.ea s → t.read k = s.read k :=
  exists_store_setP_frame (opDcp_next.mpr rfl)

theorem writeAX_eq (v : Byte) (n : Nat) (s : State) : writeAX v n s = .next { s with
    a := v
    x := v
    p := { s.p with z := v == 0, n := v.getLsbD 7 }
    pc := s.pc + BitVec.ofNat 16 n } :=
  next_setZN_advance ((s.setA v).setX v) v n

/-- Every LAX cell but the immediate one is stable (R270, R280). -/
theorem memClass_lax (h : ∀ b, o ≠ .imm b) (op : Byte) : memClass .LAX o op = some .stable := by
  cases o
  case imm b => exact absurd rfl (h b)
  all_goals rfl

theorem memMeaning_lax (h : ∀ b, o ≠ .imm b) (s : State) : memMeaning .LAX o s = opLax o s := by
  cases o
  case imm b => exact absurd rfl (h b)
  all_goals rfl

/-- Settles O26: DCP and SAX store one byte, and LAX is a load of two registers. -/
theorem decrementCompareStoreAndLoadCells : Obligations.DecrementCompareStoreAndLoadCells := by
  refine ⟨fun i o s hi ho hp => ?_, fun i o s hi ho hp => ?_, fun i o s hi ho hne hp => ?_, ?_, ?_, ?_⟩
  · rw [exec_stable hi ho hp, length_mem ho]
    exact opDcp_frame o s
  · rw [exec_stable hi ho hp, length_mem ho]
    exact opStore_frame (s.a &&& s.x) o s
  · rw [exec_stable hi ho hp (memClass_lax hne _), memMeaning_lax hne, length_mem ho]
    exact writeAX_eq (o.value s) o.length s
  all_goals exact (encodings_eq_rows _).trans rfl

/-! ### The immediate combinations and LAS (R283 to R287) -/

/-- Settles O27: ANC and ALR end in a write of A with C set before, LAS in a write of A and X with S set before. -/
theorem immediateCombinationsAndLas : Obligations.ImmediateCombinationsAndLas := by
  refine ⟨fun b s hp => ⟨?_, ?_, ?_⟩, fun b s hp => ?_, fun a s hp => ?_, ?_, ?_, ?_, ?_⟩
  · rw [exec_stable rfl rfl hp]
    exact writeA_eq (s.a &&& b) 2 (s.setC (s.a &&& b).msb)
  · rw [exec_stable rfl rfl hp]
    exact writeA_eq (s.a &&& b) 2 (s.setC (s.a &&& b).msb)
  · rw [exec_stable rfl rfl hp]
    exact writeA_eq ((s.a &&& b) >>> 1) 2 (s.setC ((s.a &&& b).getLsbD 0))
  · rw [exec_stable rfl rfl hp]
    exact opAxs_next.mpr rfl
  · rw [exec_stable rfl rfl hp]
    exact writeAX_eq (s.read (a + zext16 s.y) &&& s.sp) 3 (s.setSp (s.read (a + zext16 s.y) &&& s.sp))
  all_goals exact (encodings_eq_rows _).trans rfl

/-- The result of ARR is the rotate of `A AND i` (R285). -/
theorem arrByte_eq (a b : Byte) (c : Bool) : arrByte a b c = ((a &&& b) >>> 1) ||| (if c then 0x80 else 0x00) :=
  congrArg Prod.fst (rorByte_eq (a &&& b) c)

/-- Settles O28: ARR completes where D is clear or the mode is binary, and the other two modes have a refusal each. -/
theorem arrRotatesAndRefusesDecimal : Obligations.ArrRotatesAndRefusesDecimal := by
  refine ⟨fun b s hp h => ?_, fun b s hp hd => ⟨fun hm => ?_, fun hm => ?_⟩, (encodings_eq_rows _).trans rfl⟩
  · rw [exec_stable rfl rfl hp, ← arrByte_eq]
    exact opArr_next.mpr ⟨h, rfl⟩
  · rw [exec_stable (m := .ARR) rfl rfl hp]
    simp only [memMeaning, opArr, hd, hm]
  · rw [exec_stable (m := .ARR) rfl rfl hp]
    simp only [memMeaning, opArr, hd, hm]

/-! ### The magic cells (R288, R289) -/

/-- Settles O29: with A = $FF the OR hides MAGIC, with i = $00 the AND does. -/
theorem magicCellsCombineWithTheConstant : Obligations.MagicCellsCombineWithTheConstant := by
  refine ⟨fun b s hp => ⟨?_, ?_, fun ha => ?_, fun hb => ?_⟩, fun k m hk => ?_, ⟨rfl, rfl⟩,
    (encodings_eq_rows _).trans rfl⟩
  · rw [exec_unstable rfl rfl hp]
    exact writeA_eq ((s.a ||| s.params.magic) &&& s.x &&& b) 2 s
  · rw [exec_unstable rfl rfl hp]
    exact writeAX_eq ((s.a ||| s.params.magic) &&& b) 2 s
  · have hmagic : s.a ||| s.params.magic = 0xFF := by
      rw [ha]
      exact BitVec.allOnes_or
    show (s.a ||| s.params.magic) &&& s.x &&& b = s.x &&& b
    rw [hmagic]
    exact congrArg (· &&& b) BitVec.allOnes_and
  · show (s.a ||| s.params.magic) &&& s.x &&& b = 0x00
    rw [hb]
    exact BitVec.and_zero
  · rw [settingsParams, hk, Option.getD_some]

end Sys2Proof.Machine
end

section
/-! Proofs of the statements of `60_exceptions.md`: what an instruction can answer (R330), the inputs of a step boundary
(R332), the order of its events (R333 to R335, R337), the delayed I of the poll (R336), and the entry sequence (R338).
The order of events is said once, as one lemma per event that a step can take; the statements about steps cite them. -/

namespace Sys2Proof.Machine

variable {i : Instr} {s t : State}

/-! ### What an instruction can answer (R330) -/

/-- The causes for which an instruction of the mnemonic and the operand is refused, each with its refusal. -/
inductive RefusedFor (m : Mnemonic) (o : Operand) (s : State) : Refusal → Prop where
  | policy (h : s.params.undocPolicy ≠ .allWithMagic) : RefusedFor m o s .undocumentedCell
  | decimalMode (hm : m ∈ [.ADC, .SBC, .RRA, .ISC, .ARR]) (hd : s.p.d = true)
      (h : s.params.decimalMode = .refuse) : RefusedFor m o s .decimalModeRefused
  | arrDecimal (hm : m = .ARR) (hd : s.p.d = true) (h : s.params.decimalMode = .nmosBcd) :
      RefusedFor m o s .arrDecimal
  | crossing {q : MemOperand} (hm : m ∈ [.AHX, .TAS, .SHY, .SHX]) (ho : o = .mem q) (h : q.crossed s = true) :
      RefusedFor m o s .unstableStoreCrossesPage

/-- The outcome is a next state, or a refusal for one of the causes. -/
inductive Answers (m : Mnemonic) (o : Operand) (s : State) : Result → Prop where
  | next (t : State) : Answers m o s (.next t)
  | refused {e : Refusal} (h : RefusedFor m o s e) : Answers m o s (.refused e)

section
variable {m : Mnemonic} {o : Operand} {r : Result}

/-- An addition has no sum only with D = 1 in the mode that refuses (R171). -/
theorem refuse_of_adcSum_eq_none {mode : DecimalMode} {d c : Bool} {a b : Byte} (h : adcSum mode d a b c = none) :
    d = true ∧ mode = .refuse := by
  cases d <;> cases mode <;> simp [adcSum] at h ⊢

/-- A subtraction has no difference only with D = 1 in the mode that refuses (R171). -/
theorem refuse_of_sbcSum_eq_none {mode : DecimalMode} {d c : Bool} {a b : Byte} (h : sbcSum mode d a b c = none) :
    d = true ∧ mode = .refuse := by
  cases d <;> cases mode <;> simp [sbcSum] at h ⊢

/-- A sum is written, or refused where the mode leaves none (R171). -/
theorem Answers.advanceResult_writeSum (hm : m ∈ [.ADC, .SBC, .RRA, .ISC, .ARR]) (n : Nat) (u : State)
    {q : Option Sum} (hq : q = none → s.p.d = true ∧ s.params.decimalMode = .refuse) :
    Answers m o s (advanceResult n (u.writeSum q)) := by
  cases q with
  | some q => exact .next _
  | none =>
    obtain ⟨hd, hmode⟩ := hq rfl
    exact .refused (.decimalMode hm hd hmode)

/-- ARR completes, or is refused with D = 1 in the two modes that leave it without a meaning (R285). -/
theorem Answers.opArr (b : Byte) (s : State) : Answers .ARR o s (opArr b s) := by
  unfold Machine.opArr
  split
  · exact .next _
  · exact .next _
  next hd hmode => exact .refused (.arrDecimal rfl hd hmode)
  next hd hmode => exact .refused (.decimalMode (by decide) hd hmode)

/-- An unstable store completes within its page (R290 to R293). -/
theorem Answers.opUnstableStore (hm : m ∈ [.AHX, .TAS, .SHY, .SHX]) (v : Byte) (q : MemOperand) (s u : State) :
    Answers m (.mem q) s (opUnstableStore v q s u) := by
  unfold Machine.opUnstableStore
  split
  next h => exact .refused (.crossing hm rfl h)
  · exact .next _

theorem memMeaning_answers (m : Mnemonic) (q : MemOperand) (s : State) :
    Answers m (.mem q) s (memMeaning m q s) := by
  cases m
  case ADC | RRA => exact .advanceResult_writeSum (by decide) _ _ refuse_of_adcSum_eq_none
  case SBC | ISC => exact .advanceResult_writeSum (by decide) _ _ refuse_of_sbcSum_eq_none
  case ARR => exact .opArr _ _
  case AHX | TAS | SHY | SHX => exact .opUnstableStore (by decide) _ _ _ _
  case LAX => cases q <;> exact .next _
  all_goals exact .next _

/-- The gate adds the refusal of the policy, which `all_with_magic` never gives (R270). -/
theorem Answers.gate (h : Answers m o s r) (cl : UndocClass) : Answers m o s (undocumented s cl r) := by
  by_cases hp : s.params.undocPolicy = .allWithMagic
  · rwa [undocumented_open (by rw [hp, undocAllowed])]
  · unfold undocumented
    split
    · exact h
    · exact .refused (.policy hp)

theorem Answers.behindGate (h : Answers m o s r) (cl : Option UndocClass) :
    Answers m o s (behindGate cl s r) := by
  cases cl with
  | none => exact h
  | some cl => exact h.gate cl

end

/-- The instructions without an operand complete; STP and the extra NOPs stand behind the gate (R270). -/
theorem implicit_answers (ho : i.operand = .implicit) (s : State) : Answers i.mnemonic i.operand s (exec i s) := by
  by_cases hstp : i.mnemonic = .STP
  · rw [exec_stp s hstp]
    exact (Answers.next _).gate _
  by_cases hnop : i.mnemonic = .NOP ∧ i ≠ .nop
  · rw [exec_extraNop s hnop.1 hnop.2]
    exact (Answers.next _).gate _
  -- `ho`, `hstp` and `hnop` leave the 25 documented cells of implicit mode.
  cases i <;> try contradiction
  all_goals exact .next _

/-- Every instruction completes or is refused for one of the causes. -/
theorem exec_answers (i : Instr) (s : State) : Answers i.mnemonic i.operand s (exec i s) := by
  by_cases hr : i.mnemonic = .JSR
  · cases i <;> cases hr
    exact .next _
  by_cases hj : i.mnemonic = .JMP
  · cases i <;> cases hj <;> exact .next _
  cases ho : i.operand with
  | mem q =>
    rw [exec_mem s ho hj hr]
    exact (memMeaning_answers _ q s).behindGate _
  | accumulator | relative | indirect => cases i <;> cases ho <;> exact .next _
  | implicit => exact ho ▸ implicit_answers ho s

/-- Settles O52: a fault is no answer of an instruction, and each cause of a refusal is one of the four listed. -/
theorem noInstructionFaults : Obligations.NoInstructionFaults := by
  intro i s
  have hanswer := exec_answers i s
  refine ⟨fun f h => ?_, fun e h => ?_⟩
  · rw [h] at hanswer
    cases hanswer
  · rw [h] at hanswer
    cases hanswer with
    | refused hcause =>
      cases hcause with
      | policy hp => exact .inl ⟨hp, rfl⟩
      | decimalMode hm hd hmode => exact .inr (.inl ⟨hm, hd, hmode, rfl⟩)
      | arrDecimal hm hd hmode => exact .inr (.inr (.inl ⟨hm, hd, hmode, rfl⟩))
      | crossing hm ho hc => exact .inr (.inr (.inr ⟨hm, ⟨_, ho, hc⟩, rfl⟩))

/-! ### The inputs of a step boundary (R332) -/

/-- With no input left the boundary changes nothing. -/
theorem State.takeInput_of_nil (h : s.inputs = []) : s.takeInput = s := by
  rw [State.takeInput, h]

theorem State.resetRequested_of_nil (h : s.inputs = []) : s.resetRequested = false := by
  rw [State.resetRequested, h]

theorem State.takeInput_of_cons {e : StepInput} {rest : List StepInput} (h : s.inputs = e :: rest) :
    s.takeInput = { s with inputs := rest, irqLine := e.irqLine, nmiPending := s.nmiPending || e.nmiEdge } := by
  rw [State.takeInput, h]

theorem State.resetRequested_of_cons {e : StepInput} {rest : List StepInput} (h : s.inputs = e :: rest) :
    s.resetRequested = e.reset := by
  rw [State.resetRequested, h]

/-- Settles O38. -/
theorem environmentInputIsTakenAtTheBoundary : Obligations.EnvironmentInputIsTakenAtTheBoundary :=
  fun _ _ _ => ⟨fun h => ⟨State.takeInput_of_nil h, State.resetRequested_of_nil h⟩,
    fun h => ⟨State.resetRequested_of_cons h, State.takeInput_of_cons h⟩⟩

/-- The memory after an entry is that of the stack frame (R338). -/
theorem State.enter_mem (s : State) (ret : Addr) (b : Bool) (vec : Addr) :
    (s.enter ret b vec).mem = (s.pushFrame ret b).mem := rfl

/-- The NMI entry, its counts as those of the state before (R333, R335). -/
theorem State.takeNmi_eq (s : State) : s.takeNmi =
    { ({ s with nmiPending := false } : State).enter s.pc false 0xFFFA with
      iForPoll := true, steps := s.steps + 1, cycles := s.cycles + 7 } := by
  simp only [State.takeNmi, Config.vecNmi, entryCycles, State.enter_steps, State.enter_cycles]

/-- The IRQ entry, its counts as those of the state before (R333, R334). -/
theorem State.takeIrq_eq (s : State) : s.takeIrq =
    { s.enter s.pc false 0xFFFE with
      iForPoll := true, steps := s.steps + 1, cycles := s.cycles + 7 } := by
  simp only [State.takeIrq, Config.vecIrq, entryCycles, State.enter_steps, State.enter_cycles]

/-! ### The order of events (R333 to R335, R337)

`step_of_resetRequested` and `step_of_stopped` are the first two events. -/

/-- A pending NMI comes before an IRQ and the instruction (R333, R335, R337). -/
theorem step_of_nmiPending (hr : s.resetRequested = false) (hs : s.takeInput.stopped = false)
    (hn : s.takeInput.nmiPending = true) : step s = .next s.takeInput.takeNmi := by
  have hb : boundaryEvent s.resetRequested s.takeInput = .nmi := by
    rw [boundaryEvent, hr, hs, hn]
    rfl
  rw [step, hb]

/-- An asserted line that the poll does not mask comes before the instruction (R333, R334). -/
theorem step_of_irq (hr : s.resetRequested = false) (hs : s.takeInput.stopped = false)
    (hn : s.takeInput.nmiPending = false) (hl : s.takeInput.irqLine = true) (hp : s.takeInput.iForPoll = false) :
    step s = .next s.takeInput.takeIrq := by
  have hb : boundaryEvent s.resetRequested s.takeInput = .irq := by
    rw [boundaryEvent, hr, hs, hn, hl, hp]
    rfl
  rw [step, hb]

/-- With nothing else to do a step runs the instruction at PC (R333). -/
theorem step_of_instruction (hr : s.resetRequested = false) (hs : s.takeInput.stopped = false)
    (hn : s.takeInput.nmiPending = false) (hl : s.takeInput.irqLine = false ∨ s.takeInput.iForPoll = true) :
    step s = runInstr s.takeInput.fetch s.takeInput := by
  have hb : boundaryEvent s.resetRequested s.takeInput = .instruction := by
    have hmasked : (s.takeInput.irqLine && !s.takeInput.iForPoll) = false := by
      rcases hl with h | h <;> rw [h]
      · rfl
      · exact Bool.and_false _
    rw [boundaryEvent, hr, hs, hn, hmasked]
    rfl
  rw [step, hb]

/-- CLI, SEI and PLP are the opcodes $58, $78 and $28 (R98, R336). -/
theorem delaysI_eq_decide (i : Instr) : delaysI i.mnemonic = decide (i.opcode ∈ [0x58, 0x78, 0x28]) := by
  cases i <;> rfl

/-- The poll after an instruction, by the opcode (R336). -/
theorem iForPollAfter_eq (i : Instr) (s t : State) :
    iForPollAfter i s t = if i.opcode ∈ [0x58, 0x78, 0x28] then s.p.i else t.p.i := by
  simp only [iForPollAfter, delaysI_eq_decide, decide_eq_true_eq]

/-- Settles O37: one lemma per event, and the poll after the instruction read off the opcode. -/
theorem stepFollowsTheOrderOfEvents : Obligations.StepFollowsTheOrderOfEvents := by
  intro s
  refine ⟨step_of_resetRequested, fun hr hs => step_of_stopped (s.takeInput_stopped ▸ hs) hr,
    fun hr hs hn => ⟨_, rfl, (step_of_nmiPending hr hs hn).trans (congrArg _ (State.takeNmi_eq _))⟩,
    fun hr hs hn hl hp => ⟨_, rfl, (step_of_irq hr hs hn hl hp).trans (congrArg _ (State.takeIrq_eq _))⟩,
    fun hr hs hn hl u hu => ?_⟩
  rw [step_of_instruction hr hs hn hl, runInstr, hu, ← iForPollAfter_eq]
  rfl

/-- The bytes at PC decode to the instruction fetched (R69, R80, R102). -/
theorem State.fetch_of_decode {rest : List Byte} (h : decode [s.read s.pc, s.read (s.pc + 1), s.read (s.pc + 2)]
    = .ok (i, rest)) : s.fetch = i := by
  obtain ⟨rest', h'⟩ := decode_three (s.read s.pc) (s.read (s.pc + 1)) (s.read (s.pc + 2))
  rw [h'] at h
  cases h
  rfl

/-- Settles O39: the instruction decoded is the one fetched. That it is well formed is not needed. -/
theorem stepRunsTheDecodedInstruction : Obligations.StepRunsTheDecodedInstruction := by
  intro s i rest t hr hs hn hl hdec _
  rw [step_of_instruction hr hs hn hl, State.fetch_of_decode hdec, runInstr]
  refine ⟨fun u h => ?_, fun e h => ?_, fun e h => ?_⟩ <;> rw [h]
  rfl

/-! ### The delayed I of the poll (R336) -/

theorem delaysI_iff {m : Mnemonic} : delaysI m = true ↔ m = .CLI ∨ m = .SEI ∨ m = .PLP := by
  simp [delaysI, or_assoc]

/-- After CLI, SEI and PLP the poll uses the I of before. -/
theorem iForPollAfter_of_delayed (h : i.mnemonic = .CLI ∨ i.mnemonic = .SEI ∨ i.mnemonic = .PLP) (s t : State) :
    iForPollAfter i s t = s.p.i :=
  if_pos (delaysI_iff.mpr h)

/-- After every other instruction the poll uses the I that it left. -/
theorem iForPollAfter_of_not_delayed (h : ¬(i.mnemonic = .CLI ∨ i.mnemonic = .SEI ∨ i.mnemonic = .PLP))
    (s t : State) : iForPollAfter i s t = t.p.i :=
  if_neg (mt delaysI_iff.mp h)

/-- The IRQ line is asserted and nothing else is pending: no input is left, the machine is not stopped, and no NMI is
latched. -/
structure State.OnlyIrq (s : State) : Prop where
  inputs : s.inputs = []
  stopped : s.stopped = false
  nmiPending : s.nmiPending = false
  irqLine : s.irqLine = true

/-- With only the line asserted, an open poll makes the step the IRQ entry. -/
theorem State.OnlyIrq.step_of_open (h : s.OnlyIrq) (hp : s.iForPoll = false) : step s = .next s.takeIrq := by
  have e := State.takeInput_of_nil h.inputs
  simpa only [e] using step_of_irq (State.resetRequested_of_nil h.inputs) (e.symm ▸ h.stopped)
    (e.symm ▸ h.nmiPending) (e.symm ▸ h.irqLine) (e.symm ▸ hp)

/-- With only the line asserted, a poll that masks it makes the step the instruction at PC. -/
theorem State.OnlyIrq.step_of_masked (h : s.OnlyIrq) (hp : s.iForPoll = true) : step s = runInstr s.fetch s := by
  have e := State.takeInput_of_nil h.inputs
  simpa only [e] using step_of_instruction (State.resetRequested_of_nil h.inputs) (e.symm ▸ h.stopped)
    (e.symm ▸ h.nmiPending) (.inr (e.symm ▸ hp))

/-- The line and the latch outlast an instruction, which does not touch them (R39). -/
theorem State.OnlyIrq.of_runInstr (h : s.OnlyIrq) (hrun : runInstr i s = .next t) (ht : t.stopped = false) :
    t.OnlyIrq := by
  obtain ⟨u, hu, rfl⟩ := runInstr_eq_next.mp hrun
  obtain ⟨hline, hnmi, hin, -⟩ := instructionsLeaveHiddenStateAlone i s u hu
  exact ⟨hin.trans h.inputs, ht, hnmi.trans h.nmiPending, hline.trans h.irqLine⟩

/-- CLI with I = 1: the instruction after it still runs, and the IRQ comes after that where I stayed clear. -/
theorem irq_comes_one_instruction_after_cli (h : s.OnlyIrq) (hp : s.iForPoll = true) (hi : s.p.i = true)
    (hf : s.fetch = .cli) :
    ∃ t, step s = .next t ∧ t.p.i = false ∧ t.irqLine = true ∧ step t = runInstr t.fetch t ∧
      ∀ u, step t = .next u → u.stopped = false → u.iForPoll = false → step u = .next u.takeIrq := by
  have hrun : runInstr .cli s = .next (finishStep .cli s ((s.setI false).advance 1)) := rfl
  have ht := h.of_runInstr hrun h.stopped
  have hstep := ht.step_of_masked (hi : s.p.i = true)
  refine ⟨_, (hf ▸ h.step_of_masked hp).trans hrun, rfl, ht.irqLine, hstep, fun u hu hs hopen => ?_⟩
  exact (ht.of_runInstr (hstep.symm.trans hu) hs).step_of_open hopen

/-- What the IRQ entry leaves in memory is the stack frame (R338). The count of steps, which the entry raises, does not
matter where memory lies. -/
theorem State.read_takeIrq {k : Addr} (h : s.readable k = true) :
    s.takeIrq.read k = (s.pushFrame s.pc false).read k := by
  have hirq : s.takeIrq.readable k = true := by
    rw [← h, State.readable, State.readable, State.kindAt, State.kindAt, State.takeIrq_eq, State.enter_settings]
  have hframe : (s.pushFrame s.pc false).readable k = true := (s.pushFrame_readable s.pc false k).trans h
  rw [State.read_of_readable hirq, State.read_of_readable hframe, State.takeIrq_eq, State.enter_mem]

/-- The status byte that the IRQ entry pushes has B = 0 (R334, R338). -/
theorem State.read_takeIrq_status (h : s.writable (join 0x01 (s.sp - 2)) = true) :
    s.takeIrq.read (join 0x01 (s.sp - 2)) = s.p.toByte false := by
  have hsp : s.sp - 2 = s.sp - 1 - 1 := (BitVec.sub_sub s.sp 1 1).symm
  rw [State.read_takeIrq (State.readable_of_writable h)]
  rw [hsp] at h ⊢
  exact State.read_pushFrame_status _ _ h

/-- SEI with I = 0: the IRQ comes right after it, and saves I = 1. -/
theorem irq_comes_right_after_sei (h : s.OnlyIrq) (hp : s.iForPoll = true) (hi : s.p.i = false)
    (hf : s.fetch = .sei) :
    ∃ t, step s = .next t ∧ t.p.i = true ∧ step t = .next t.takeIrq ∧
      (t.writable (join 0x01 (t.sp - 2)) = true → t.takeIrq.read (join 0x01 (t.sp - 2)) = t.p.toByte false) := by
  have hrun : runInstr .sei s = .next (finishStep .sei s ((s.setI true).advance 1)) := rfl
  have ht := h.of_runInstr hrun h.stopped
  exact ⟨_, (hf ▸ h.step_of_masked hp).trans hrun, rfl, ht.step_of_open (hi : s.p.i = false),
    State.read_takeIrq_status⟩

/-- Settles O40: the poll after each instruction, and the steps after a CLI and after an SEI with the line asserted. -/
theorem delayedInterruptDisable : Obligations.DelayedInterruptDisable := by
  refine ⟨fun i s t => ⟨fun h => iForPollAfter_of_delayed h s t, fun hc hs hp => ?_⟩, fun s t h => ?_,
    fun s hin hs hn hl => irq_comes_one_instruction_after_cli ⟨hin, hs, hn, hl⟩,
    fun s hin hs hn hl => irq_comes_right_after_sei ⟨hin, hs, hn, hl⟩, fun s => ⟨rfl, rfl⟩⟩
  · exact iForPollAfter_of_not_delayed (not_or.mpr ⟨hc, not_or.mpr ⟨hs, hp⟩⟩) s t
  · cases h
    rfl

/-! ### The entry sequence (R338) -/

/-- The registers after an entry, with S lowered in one step; the pushes lie in page one and so leave a vector outside
it alone. -/
theorem State.enter_registers (s : State) (ret : Addr) (b : Bool) {vec : Addr} (h : hi vec ≠ Config.stackPage)
    (h' : hi (vec + 1) ≠ Config.stackPage) : { s.enter ret b vec with mem := s.mem } =
      { s with sp := s.sp - 3, p := { s.p with i := true }, pc := join (s.read (vec + 1)) (s.read vec) } := by
  have hsp : s.sp - 3 = s.sp - 1 - 1 - 1 := by bv_omega
  rw [State.enter_eq, hsp, State.read16_pushFrame s ret b h h']
  rfl

/-- None of the three vectors lies in the stack page, and none ends there (R56, R63). -/
theorem vector_outside_stackPage {vec : Addr} (h : vec = 0xFFFA ∨ vec = 0xFFFC ∨ vec = 0xFFFE) :
    hi vec ≠ Config.stackPage ∧ hi (vec + 1) ≠ Config.stackPage := by
  rcases h with rfl | rfl | rfl <;> decide

/-- Settles O36: the registers, the three bytes of the stack frame, and the return from it. -/
theorem interruptEntrySequence : Obligations.InterruptEntrySequence := by
  intro s ret b vec hvec
  obtain ⟨h, h'⟩ := vector_outside_stackPage hvec
  have hsp : s.sp - 2 = s.sp - 1 - 1 := (BitVec.sub_sub s.sp 1 1).symm
  simp only [State.read_enter, hsp]
  refine ⟨s.enter_registers ret b h h', State.read_pushFrame_high ret b, State.read_pushFrame_low ret b,
    State.read_pushFrame_status ret b, fun k h0 h1 h2 => State.read_of_pushFrame ret b h0 h1 h2,
    fun h0 h1 h2 => ?_, congrArg State.cycles s.takeNmi_eq, congrArg State.cycles s.takeIrq_eq, rfl⟩
  calc exec .rti (s.enter ret b vec) = .next (s.enter ret b vec).returnFromInterrupt := rfl
    _ = .next { s with mem := (s.enter ret b vec).mem, pc := ret } := by
      rw [State.returnFromInterrupt_enter ret b vec h0 h1 h2, State.enter_mem]

end Sys2Proof.Machine
end

section
/-! Proofs of the statements of `70_reset_and_hazards.md`: reset (R370) and the ghost cycle count (R380 to R382). That
no instruction reads the count is `ReadsNoCycles`, said of each operation once; `step_withCycles` carries it to the
step, with `cyclesAdded` as what a step adds. -/

namespace Sys2Proof.Machine

variable {i : Instr} {s : State}

/-! ### Reset (R370) -/

/-- Settles O41: the reset is one record update, and a step with a reset requested is it. -/
theorem resetRestoresTheControlState : Obligations.ResetRestoresTheControlState :=
  ⟨fun _ _ => ⟨rfl, rfl, rfl, rfl, rfl, rfl, rfl, rfl, rfl, ⟨rfl, rfl⟩, ⟨rfl, rfl, rfl, rfl⟩,
    rfl, rfl, rfl, rfl, rfl⟩, fun _ hr => ⟨_, step_of_resetRequested hr⟩⟩

/-! ### The cycle counts (R380 to R382) -/

/-- The modes in which a count of the cycle matrix may stand: "+" in the three that add an index to a 16-bit base. -/
def CycleCount.fits (c : CycleCount) (m : Mode) : Bool :=
  match c with
  | .plus _ => m == .absX || m == .absY || m == .indY
  | .branch => m == .relative
  | .fixed _ | .never => m != .relative

/-- The cycle matrix against the opcode matrix, cell by cell (R98, R380). -/
theorem cycleCountOf_fits (i : Instr) : (cycleCountOf i.opcode).fits i.operand.mode = true := by
  cases i <;> rfl

/-- The "+" stands on cells of the modes a,X a,Y and (d),Y only (R381). -/
theorem operand_of_plus {n : Nat} (h : cycleCountOf i.opcode = .plus n) :
    ∃ o, i.operand = .mem o ∧ (o.mode = .absX ∨ o.mode = .absY ∨ o.mode = .indY) := by
  have hfits := cycleCountOf_fits i
  simp only [h, CycleCount.fits, Bool.or_eq_true, beq_iff_eq, or_assoc] at hfits
  cases ho : i.operand with
  | mem o => exact ⟨o, rfl, by rwa [ho] at hfits⟩
  | implicit | accumulator | relative | indirect => simp [ho, Operand.mode] at hfits

/-- The cells of relative mode are the eight branches (R382). -/
theorem cycleCountOf_of_relative {b : Byte} (ho : i.operand = .relative b) : cycleCountOf i.opcode = .branch := by
  have hfits := cycleCountOf_fits i
  rw [ho] at hfits
  cases hc : cycleCountOf i.opcode with
  | branch => rfl
  | fixed | plus | never => simp [hc, CycleCount.fits, Operand.mode] at hfits

/-- One more cycle exactly when the operand crosses a page (R381). -/
theorem cyclesTaken_plus {n : Nat} {o : MemOperand} (h : cycleCountOf i.opcode = .plus n) (ho : i.operand = .mem o)
    (s : State) : cyclesTaken i s = if hi (o.base s) = hi (o.ea s) then n else n + 1 := by
  rw [cyclesTaken, h, ho]
  by_cases hc : hi (o.base s) = hi (o.ea s) <;> simp [crossesPage, MemOperand.crossed, hc]

/-- The page of the target against that of the next instruction (R87, R382). -/
theorem branchNewPage_eq_false_iff (b : Byte) (s : State) :
    branchNewPage (.relative b) s = false ↔ hi (branchTarget b s) = hi (s.pc + 2) := by
  rw [branchNewPage, bne_eq_false_iff_eq, eq_comm]

/-- Two, three or four cycles of a branch (R382). -/
theorem cyclesTaken_branch {b : Byte} (ho : i.operand = .relative b) (s : State) :
    cyclesTaken i s = if branchTaken i.mnemonic s.p = false then 2
      else if hi (branchTarget b s) = hi (s.pc + 2) then 3 else 4 := by
  rw [cyclesTaken, cycleCountOf_of_relative ho, ho]
  simp only [← branchNewPage_eq_false_iff]
  cases branchTaken i.mnemonic s.p <;> cases branchNewPage (.relative b) s <;> rfl

/-- Settles O58. -/
theorem cycleMarksAddOnCrossings : Obligations.CycleMarksAddOnCrossings := by
  refine ⟨fun i s n h => ?_, fun i s n h => ?_, fun i s b ho =>
    ⟨cycleCountOf_of_relative ho, cyclesTaken_branch ho s⟩⟩
  · rw [cyclesTaken, h]
  · obtain ⟨o, ho, hmode⟩ := operand_of_plus h
    exact ⟨o, ho, hmode, cyclesTaken_plus h ho s⟩

/-! ### Who reads the cycle count (R343, R380) -/

/-- `f` does not read the count: with the count replaced it answers as before, with the same count in the next state. -/
def ReadsNoCycles (f : State → Result) : Prop :=
  ∀ (s : State) (n : Nat), f (s.withCycles n) = outcomeWithCycles n (f s)

section
variable {f : State → Result}

/-- The policy gate reads the parameters only (R270). -/
theorem ReadsNoCycles.gate (h : ReadsNoCycles f) (cl : UndocClass) :
    ReadsNoCycles fun s => undocumented s cl (f s) := by
  intro s n
  show undocumented (s.withCycles n) cl _ = outcomeWithCycles n (undocumented s cl _)
  by_cases hp : undocAllowed s.params.undocPolicy cl = true
  · rw [undocumented_open hp, undocumented_open (s := s.withCycles n) hp, h s n]
  · rw [Bool.not_eq_true] at hp
    rw [undocumented_closed hp, undocumented_closed (s := s.withCycles n) hp]
    rfl

theorem ReadsNoCycles.behindGate (h : ReadsNoCycles f) (cl : Option UndocClass) :
    ReadsNoCycles fun s => behindGate cl s (f s) := by
  cases cl with
  | none => exact h
  | some cl => exact h.gate cl

/-- A sum written, or its mode refused, and PC past the instruction. -/
theorem advanceResult_writeSum_withCycles (len : Nat) (q : Option Sum) (s : State) (n : Nat) :
    advanceResult len ((s.withCycles n).writeSum q) = outcomeWithCycles n (advanceResult len (s.writeSum q)) := by
  cases q <;> rfl

theorem ea_withCycles (o : MemOperand) (s : State) (n : Nat) : o.ea (s.withCycles n) = o.ea s := by cases o <;> rfl

theorem base_withCycles (o : MemOperand) (s : State) (n : Nat) : o.base (s.withCycles n) = o.base s := by
  cases o <;> rfl

theorem value_withCycles (o : MemOperand) (s : State) (n : Nat) : o.value (s.withCycles n) = o.value s := by
  cases o <;> rfl

theorem crossed_withCycles (o : MemOperand) (s : State) (n : Nat) : o.crossed (s.withCycles n) = o.crossed s := by
  rw [MemOperand.crossed, base_withCycles, ea_withCycles, MemOperand.crossed]

/-- ARR chooses by D and the mode, not by the count (R285). -/
theorem opArr_readsNoCycles (b : Byte) : ReadsNoCycles (opArr b) := by
  intro s n
  show opArr b (s.withCycles n) = outcomeWithCycles n (opArr b s)
  simp only [opArr, State.withCycles_p, State.withCycles_params]
  cases s.p.d <;> cases s.params.decimalMode <;> rfl

/-- An unstable store of a byte that does not depend on the count, into a state prepared without reading it. -/
theorem opUnstableStore_readsNoCycles (o : MemOperand) {v : State → Byte} {g : State → State}
    (hv : ∀ s n, v (s.withCycles n) = v s := by intros; rfl)
    (hg : ∀ s n, g (s.withCycles n) = (g s).withCycles n := by intros; rfl) :
    ReadsNoCycles fun s => opUnstableStore (v s) o s (g s) := by
  intro s n
  unfold opUnstableStore
  simp only [unstableByte, crossed_withCycles, hv, hg, ea_withCycles, base_withCycles]
  cases o.crossed s <;> rfl

end

/-- The operations on an operand of memory or on an immediate byte. -/
theorem memMeaning_readsNoCycles (m : Mnemonic) (o : MemOperand) : ReadsNoCycles (memMeaning m o) := by
  intro s n
  cases m
  case ADC | SBC =>
    have h := value_withCycles o s n
    simp only [memMeaning, opAdc, opSbc, h]
    exact advanceResult_writeSum_withCycles ..
  case RRA =>
    have h := ea_withCycles o s n
    simp only [memMeaning, opRra, h]
    exact advanceResult_writeSum_withCycles _ _ (State.setC (s.write _ _) _) n
  case ISC =>
    have h := ea_withCycles o s n
    simp only [memMeaning, opIsc, h]
    exact advanceResult_writeSum_withCycles _ _ (s.write _ _) n
  case ARR =>
    have h := value_withCycles o s n
    simp only [memMeaning, h]
    exact opArr_readsNoCycles _ s n
  case AHX => exact (opUnstableStore_readsNoCycles o (v := fun u => u.a &&& u.x) (g := id)) s n
  case TAS =>
    exact (opUnstableStore_readsNoCycles o (v := fun u => u.a &&& u.x) (g := fun u => u.setSp (u.a &&& u.x))) s n
  case SHY => exact (opUnstableStore_readsNoCycles o (v := State.y) (g := id)) s n
  case SHX => exact (opUnstableStore_readsNoCycles o (v := State.x) (g := id)) s n
  -- No address and no operand byte depends on the count, in whichever mode.
  all_goals cases o <;> rfl

/-- The instructions without an operand: STP and the extra NOPs stand behind the policy gate. -/
theorem implicit_readsNoCycles (ho : i.operand = .implicit) : ReadsNoCycles (exec i) := by
  have hstop : ReadsNoCycles fun s => .next s.stop := fun _ _ => rfl
  have hnop : ReadsNoCycles fun s => .next (s.advance 1) := fun _ _ => rfl
  cases i <;> try contradiction
  case stp02 | stp12 | stp22 | stp32 | stp42 | stp52 | stp62 | stp72 | stp92 | stpB2 | stpD2 | stpF2 =>
    exact hstop.gate .halt
  case nop1A | nop3A | nop5A | nop7A | nopDA | nopFA => exact hnop.gate .same
  all_goals exact fun _ _ => rfl

/-- No instruction reads the count. -/
theorem exec_withCycles (i : Instr) (s : State) (n : Nat) :
    exec i (s.withCycles n) = outcomeWithCycles n (exec i s) := by
  by_cases hr : i.mnemonic = .JSR
  · cases i <;> cases hr
    rfl
  by_cases hj : i.mnemonic = .JMP
  · cases i <;> cases hj <;> rfl
  cases ho : i.operand with
  | mem o =>
    rw [exec_mem _ ho hj hr, exec_mem _ ho hj hr]
    exact (memMeaning_readsNoCycles _ o).behindGate _ s n
  | accumulator | relative | indirect => cases i <;> cases ho <;> rfl
  | implicit => exact implicit_readsNoCycles ho s n

/-! ### What a step adds to the cycle count (R380) -/

theorem crossesPage_withCycles (o : Operand) (s : State) (n : Nat) :
    crossesPage o (s.withCycles n) = crossesPage o s := by
  cases o with
  | mem o => exact crossed_withCycles o s n
  | implicit | accumulator | relative | indirect => rfl

theorem branchNewPage_withCycles (o : Operand) (s : State) (n : Nat) :
    branchNewPage o (s.withCycles n) = branchNewPage o s := by
  cases o <;> rfl

/-- What an instruction costs does not depend on the count. -/
theorem cyclesTaken_withCycles (i : Instr) (s : State) (n : Nat) :
    cyclesTaken i (s.withCycles n) = cyclesTaken i s := by
  unfold cyclesTaken
  rw [crossesPage_withCycles, branchNewPage_withCycles, State.withCycles_p]

/-- The instruction adds its cycles to the count, whatever that is, and does not read it. -/
theorem runInstr_withCycles (i : Instr) (s : State) (n : Nat) :
    runInstr i (s.withCycles n) = outcomeWithCycles (n + cyclesTaken i s) (runInstr i s) := by
  unfold runInstr
  rw [exec_withCycles]
  cases exec i s with
  | next t =>
    show Host.Outcome.next (finishStep i (s.withCycles n) (t.withCycles n)) = _
    rw [finishStep, cyclesTaken_withCycles]
    rfl
  | fault f => rfl
  | refused e => rfl

theorem takeInput_withCycles (s : State) (n : Nat) : (s.withCycles n).takeInput = s.takeInput.withCycles n := by
  unfold State.takeInput
  rw [State.withCycles_inputs]
  split <;> rfl

theorem takeNmi_withCycles (s : State) (n : Nat) :
    (s.withCycles n).takeNmi = s.takeNmi.withCycles (n + entryCycles) := rfl

theorem takeIrq_withCycles (s : State) (n : Nat) :
    (s.withCycles n).takeIrq = s.takeIrq.withCycles (n + entryCycles) := rfl

theorem resetStep_withCycles (s : State) (n : Nat) :
    (s.withCycles n).resetStep = s.resetStep.withCycles (n + entryCycles) := rfl

/-- The cycles that a step adds to the count (R380): those of the instruction, or those of an entry or a reset. -/
def cyclesAdded (s : State) : Nat :=
  match boundaryEvent s.resetRequested s.takeInput with
  | .stuck => 0
  | .reset | .nmi | .irq => entryCycles
  | .instruction => cyclesTaken s.takeInput.fetch s.takeInput

/-- A step adds to the count without reading it. -/
theorem step_withCycles (s : State) (n : Nat) :
    step (s.withCycles n) = outcomeWithCycles (n + cyclesAdded s) (step s) := by
  have hb : boundaryEvent (s.withCycles n).resetRequested (s.withCycles n).takeInput =
      boundaryEvent s.resetRequested s.takeInput := by
    rw [takeInput_withCycles]
    rfl
  unfold step cyclesAdded
  rw [hb, takeInput_withCycles]
  cases boundaryEvent s.resetRequested s.takeInput with
  | reset => exact congrArg Host.Outcome.next (resetStep_withCycles s.takeInput n)
  | stuck => rfl
  | nmi => exact congrArg Host.Outcome.next (takeNmi_withCycles s.takeInput n)
  | irq => exact congrArg Host.Outcome.next (takeIrq_withCycles s.takeInput n)
  | instruction => exact runInstr_withCycles s.takeInput.fetch s.takeInput n

theorem outcomeWithCycles_outcomeWithCycles (m n : Nat) (r : Result) :
    outcomeWithCycles m (outcomeWithCycles n r) = outcomeWithCycles m r := by
  cases r <;> rfl

/-- A step adds `cyclesAdded` to the count: `step_withCycles` at the count that the state has. -/
theorem step_cycles {t : State} (h : step s = .next t) : t.cycles = s.cycles + cyclesAdded s := by
  have hself : step s = outcomeWithCycles (s.cycles + cyclesAdded s) (step s) := step_withCycles s s.cycles
  rw [h] at hself
  exact congrArg State.cycles (next_eq.mp hself.symm)

/-- Settles O57: the count that a step leaves is `step_withCycles`, and what it adds is `cyclesAdded`. -/
theorem cycleCountInfluencesNoStep : Obligations.CycleCountInfluencesNoStep := by
  intro s n m
  refine ⟨by rw [step_withCycles, outcomeWithCycles_outcomeWithCycles], fun t h => ?_⟩
  have hadd : t.cycles - s.cycles = cyclesAdded s := by rw [step_cycles h, Nat.add_sub_cancel_left]
  refine ⟨(Nat.le_add_right _ _).trans_eq (step_cycles h).symm, ?_⟩
  rw [step_withCycles, h, hadd]
  rfl

end Sys2Proof.Machine
end
